-- ==== Sys2Proof/Word.lean ====
section
/-!
DEFINITION. The plain words of the ULM-8: bytes, the numbers of agents, entries and groups, and the
numbers the manual names by width (tickets, keys, generations, handles).
-/
namespace Sys2Proof

/-- One byte of a link transaction or of a channel register (R181). -/
abbrev Byte := BitVec 8

/-- An address in a channel register block, 00h to 7Fh (R181). -/
abbrev RegAddr := BitVec 7

/-- An agent, and the channel of that agent, 0 to 7 (section 0.8). -/
abbrev Agent := Fin 8

/-- An entry, named by its slot, 0 to 127 (R1). -/
abbrev EntryIx := Fin 128

/-- A steering group. The manual numbers the groups 1 to 4 (R112); `g : GroupIx` is group `g + 1`. -/
abbrev GroupIx := Fin 4

/-- A priority, 0 to 3; 3 is the most urgent (section 0.8). -/
abbrev Priority := Fin 4

/-- A 32-bit key (R6). -/
abbrev Key := BitVec 32

/-- A 32-bit ticket (R24). -/
abbrev Ticket := BitVec 32

/-- A generation, 1 to 255 (R7). -/
abbrev Generation := BitVec 8

/-- A handle as carried on the link: index × 256 + generation (R8). -/
abbrev Handle := BitVec 16

/-- The bytes of one write transaction, each with the address it is applied to, in the order sent
(R181). -/
abbrev Writes := List (RegAddr × Byte)

end Sys2Proof
end

