-- ==== Sys2Proof/Syntax.lean ====
section
/-!
DEFINITION. The commands and events of the ULM-8: one constructor of `Instr` for each row of
spec/opcode_table.json.
-/
namespace Sys2Proof

/-- The twenty-two commands, each named by its trigger register (Table 64). -/
inductive Cmd where
  | attach | detach | rejoin | openEntry | query | request | release | renew
  | downgrade | cancel | check | takeNotice | retire | define | amend | forceRelease
  | fence | unfence | setAgent | configure | clearFault | warmReset
  deriving DecidableEq, Repr

/-- The causes of a warm reset that are levels on the board (R172): nRESET low, core supply absent. -/
inductive PinCause where
  | nreset | coreSupply
  deriving DecidableEq, Repr

/-- The three causes of a warm reset (R172). -/
inductive ResetCause where
  | pin (c : PinCause)
  | command
  deriving DecidableEq, Repr

/-- The steps of the ULM-8, in the order of spec/opcode_table.json.

A command row `(ch, w)` is a write transaction on the link of channel `ch` that applies 5Ah to the
command's trigger register, beside the other bytes `w` of the same transaction (R160, R181, R182). -/
inductive Instr where
  | attach (ch : Agent) (w : Writes)
  | detach (ch : Agent) (w : Writes)
  | rejoin (ch : Agent) (w : Writes)
  | openEntry (ch : Agent) (w : Writes)
  | query (ch : Agent) (w : Writes)
  | request (ch : Agent) (w : Writes)
  | release (ch : Agent) (w : Writes)
  | renew (ch : Agent) (w : Writes)
  | downgrade (ch : Agent) (w : Writes)
  | cancel (ch : Agent) (w : Writes)
  | check (ch : Agent) (w : Writes)
  | takeNotice (ch : Agent) (w : Writes)
  | retire (ch : Agent) (w : Writes)
  | define (ch : Agent) (w : Writes)
  | amend (ch : Agent) (w : Writes)
  | forceRelease (ch : Agent) (w : Writes)
  | fence (ch : Agent) (w : Writes)
  | unfence (ch : Agent) (w : Writes)
  | setAgent (ch : Agent) (w : Writes)
  | configure (ch : Agent) (w : Writes)
  | clearFault (ch : Agent) (w : Writes)
  | warmReset (ch : Agent) (w : Writes)
  /-- A write transaction `w` that applies 5Ah to two or more trigger registers (R160). -/
  | multipleTriggers (ch : Agent) (w : Writes)
  /-- A write of CONTROL with bit 0 set, beside the other bytes `w` (R164). -/
  | ack (ch : Agent) (w : Writes)
  /-- A write of CONTROL with bit 1 set, beside the other bytes `w` (R165). -/
  | abort (ch : Agent) (w : Writes)
  /-- A write of `v` to ATTNEN, beside the other bytes `w` (R166). -/
  | attnenWrite (ch : Agent) (v : Byte) (w : Writes)
  /-- A write of `v` to VIEWPAGE, beside the other bytes `w` (R184). -/
  | viewpageWrite (ch : Agent) (v : Byte) (w : Writes)
  /-- A write transaction of `data` from address `start` upwards (R181, R182). -/
  | registerWrite (ch : Agent) (start : RegAddr) (data : List Byte)
  | agrstFall (a : Agent)
  | agrstRise (a : Agent)
  | settle (g : GroupIx)
  | stdoneFall (g : GroupIx)
  | warmResetBegin (c : PinCause)
  | warmResetRelease (c : ResetCause)
  /-- Power-on of the retention supply with `bootsel` on BOOTSEL[2:0] (R132, R172). -/
  | coldReset (bootsel : BitVec 3)
  | termTick
  | termExpiry (e : EntryIx) (a : Agent) (t : Ticket)
  | waitLimitExpiry (e : EntryIx) (a : Agent)
  | graceExpiry (e : EntryIx) (a : Agent) (t : Ticket)
  | switchTimeout (g : GroupIx)
  | windowExpiry
  | stdoneRise (g : GroupIx)
  | retentionSupplyLoss
  deriving DecidableEq, Repr

end Sys2Proof
end

