-- ==== Sys2Proof/Decode.lean ====
section
/-!
DEFINITION. What a channel makes of the bits of a link transaction (R181, R182): the addresses of the
trigger registers, the bytes of a write transaction, and the row of the table a transaction is.
The rows of spec/opcode_table.json carry no bits, so `decodeTableWord` reads none.
-/
namespace Sys2Proof

/-- The value that starts a command when it is applied to a trigger register (R182). -/
def triggerValue : Byte := 0x5A

/-- The commands in the order of their trigger registers (Table 64). -/
def Cmd.all : List Cmd :=
  [.attach, .detach, .rejoin, .openEntry, .query, .request, .release, .renew,
   .downgrade, .cancel, .check, .takeNotice, .retire, .define, .amend, .forceRelease,
   .fence, .unfence, .setAgent, .configure, .clearFault, .warmReset]

/-- The address of a command's trigger register (Table 64). -/
def Cmd.trigger : Cmd → RegAddr
  | .attach => 0x64 | .detach => 0x65 | .rejoin => 0x66 | .openEntry => 0x67
  | .query => 0x68 | .request => 0x69 | .release => 0x6A | .renew => 0x6B
  | .downgrade => 0x6C | .cancel => 0x6D | .check => 0x6E | .takeNotice => 0x6F
  | .retire => 0x70 | .define => 0x71 | .amend => 0x72 | .forceRelease => 0x73
  | .fence => 0x74 | .unfence => 0x75 | .setAgent => 0x76 | .configure => 0x77
  | .clearFault => 0x78 | .warmReset => 0x79

/-- The address of CONTROL (Table 63). -/
def controlAddr : RegAddr := 0x61
/-- The address of ATTNEN (Table 63). -/
def attnenAddr : RegAddr := 0x62
/-- The address of VIEWPAGE (Table 63). -/
def viewpageAddr : RegAddr := 0x63

/-- The byte a transaction applies to an address: the last one written to it (R181). -/
def lastWrite : Writes → RegAddr → Option Byte
  | [], _ => none
  | (a, b) :: w, x =>
    match lastWrite w x with
    | some b' => some b'
    | none => if a = x then some b else none

/-- The commands whose triggers a transaction writes (R182: only the value 5Ah starts a command). -/
def triggersIn (w : Writes) : List Cmd :=
  Cmd.all.filter fun c => lastWrite w c.trigger = some triggerValue

/-- CONTROL bit 1: the transaction writes ABORT (R182). -/
def writesAbort (w : Writes) : Bool :=
  match lastWrite w controlAddr with
  | some b => b.getLsbD 1
  | none => false

/-- CONTROL bit 0: the transaction writes ACK (R182). -/
def writesAck (w : Writes) : Bool :=
  match lastWrite w controlAddr with
  | some b => b.getLsbD 0
  | none => false

/-- The bytes of a write transaction with their addresses: each further byte goes to the next address,
and the address after 7Fh is 00h (R181). -/
def spread : RegAddr → List Byte → Writes
  | _, [] => []
  | a, b :: bs => (a, b) :: spread (a + 1) bs

/-- The row of a command (Table 64). -/
def commandRow (c : Cmd) (ch : Agent) (w : Writes) : Instr :=
  match c with
  | .attach => .attach ch w
  | .detach => .detach ch w
  | .rejoin => .rejoin ch w
  | .openEntry => .openEntry ch w
  | .query => .query ch w
  | .request => .request ch w
  | .release => .release ch w
  | .renew => .renew ch w
  | .downgrade => .downgrade ch w
  | .cancel => .cancel ch w
  | .check => .check ch w
  | .takeNotice => .takeNotice ch w
  | .retire => .retire ch w
  | .define => .define ch w
  | .amend => .amend ch w
  | .forceRelease => .forceRelease ch w
  | .fence => .fence ch w
  | .unfence => .unfence ch w
  | .setAgent => .setAgent ch w
  | .configure => .configure ch w
  | .clearFault => .clearFault ch w
  | .warmReset => .warmReset ch w

/-- The row of the table that a write transaction on the link of `ch` is: `data` applied from address
`start` upwards (R160, R181, R182). -/
def decodeWrite (ch : Agent) (start : RegAddr) (data : List Byte) : Instr :=
  let w := spread start data
  match triggersIn w with
  | [c] => commandRow c ch w
  | _ :: _ :: _ => .multipleTriggers ch w
  | [] =>
    if writesAbort w then .abort ch w
    else if writesAck w then .ack ch w
    else match lastWrite w attnenAddr with
      | some v => .attnenWrite ch v w
      | none =>
        match lastWrite w viewpageAddr with
        | some v => .viewpageWrite ch v w
        | none => .registerWrite ch start data

/-- The complete bytes among the bits sampled on SDIn, most significant bit first; a byte that the rise
of CSn# cuts short is discarded (R181). -/
def bytesOfBits : List Bool → List Byte
  | b7 :: b6 :: b5 :: b4 :: b3 :: b2 :: b1 :: b0 :: rest =>
    BitVec.ofBoolListBE [b7, b6, b5, b4, b3, b2, b1, b0] :: bytesOfBits rest
  | _ => []

/-- What one link transaction asks of the channel (R181). -/
inductive LinkTransaction where
  /-- No complete address byte: no effect. -/
  | nothing
  /-- A read of `n` bytes from `start`. -/
  | read (start : RegAddr) (n : Nat)
  /-- A write of `data` from `start`. -/
  | write (start : RegAddr) (data : List Byte)
  deriving DecidableEq, Repr

/-- The bits of one transaction, from the fall of CSn# to its rise (R181): bit 7 of the address byte set
makes it a read, clear a write, and bits 6 to 0 give the starting address. -/
def decodeLink (bits : List Bool) : LinkTransaction :=
  match bytesOfBits bits with
  | [] => .nothing
  | addr :: data =>
    if addr.getLsbD 7 then .read (addr.setWidth 7) data.length
    else .write (addr.setWidth 7) data

/-- No row of spec/opcode_table.json has bits, so no word spells a command. -/
def decodeTableWord (_nbits _w : Nat) : Option Instr := none

end Sys2Proof
end

