-- ==== Sys2Proof/Config.lean ====
section
/-!
DEFINITION. What the part fixes once: the sizes of its pools. The rules of the ULM-8 leave no result
value open, so there is no free value here.
-/
namespace Sys2Proof.Config

/-- The wait cells of the pool shared by all entries (R58). -/
def poolSize : Nat := 64

end Sys2Proof.Config
end

