-- ==== Sys2Proof/Machine/Table.lean ====
section
/-!
DEFINITION. Tables of a fixed number of rows (slots, agents, groups, channels) and the bytes of a
multi-byte register, least significant byte first (R181).
-/
namespace Sys2Proof.Machine

/-- Row `i` of a table. -/
def tget {n : Nat} {α : Type} (v : Vector α n) (i : Fin n) : α := v[i.val]

/-- The table with row `i` replaced. -/
def tset {n : Nat} {α : Type} (v : Vector α n) (i : Fin n) (x : α) : Vector α n :=
  v.set i.val x i.isLt

/-- The table whose row `i` is `f i`. -/
def tabulate {n : Nat} {α : Type} (f : Fin n → α) : Vector α n :=
  ⟨⟨(List.finRange n).map f⟩, by simp⟩

/-- Byte `k` of a register held least significant byte first. -/
def byteOf {n : Nat} (v : BitVec n) (k : Nat) : Byte := v.extractLsb' (8 * k) 8

/-- A register with byte `k` replaced. -/
def withByte {n : Nat} (v : BitVec n) (k : Nat) (b : Byte) : BitVec n :=
  (v &&& ~~~(BitVec.setWidth n (0xFF : Byte) <<< (8 * k))) ||| (BitVec.setWidth n b <<< (8 * k))

/-- The bytes of a register, least significant byte first. -/
def bytesOf {n : Nat} (v : BitVec n) : List Byte :=
  (List.range (n / 8)).map (byteOf v)

/-- The entries in ascending order. -/
def allEntries : List EntryIx := List.finRange 128

/-- The agents in ascending order. -/
def allAgents : List Agent := List.finRange 8

/-- The steering groups in ascending order. -/
def allGroups : List GroupIx := List.finRange 4

end Sys2Proof.Machine
end

