-- ==== Sys2Proof/Machine/Device.lean ====
section
/-!
DEFINITION. The state the manual gives the ULM-8, block by block, and its values at cold reset.
A field that is present only in some states (section 0.8) is carried by the constructor of that state
or is an `Option`.
-/
namespace Sys2Proof.Machine

/-! ### Terms, modes and codes -/

/-- A term in milliseconds, or UNBOUNDED (Table 7, Table 13). As a requested term, `ms 0` asks for the
entry's default term (Table 15). -/
inductive Term where
  | ms (n : Nat)
  | unbounded
  deriving DecidableEq, Repr

/-- The mode of a grant (Table 13). -/
inductive GrantMode where
  | shared | exclusive
  deriving DecidableEq, Repr

/-- The mode of a REQUEST and of a wait cell (Table 15, Table 26). -/
inductive WaitMode where
  | shared | exclusive | upgrade
  deriving DecidableEq, Repr

/-- The result codes (Table 58). -/
inductive ResultCode where
  | none | ok | granted | queued | current | stale | unavailable | aborted | badParam
  | notAttached | staleHandle | noEntry | alreadyExists | tableFull | entryBusy | retiring
  | modeConflict | alreadyHeld | alreadyWaiting | notPermitted | notHolder | notWaiting
  | upgradeConflict | holdQuota | waitQuota | queueFull | steerFault | inUse | noNotice | wrongState
  deriving DecidableEq, Repr

/-- The eight kinds of notice (Table 56). -/
inductive NoticeKind where
  | granted | yieldAsked | revoked | expired | waitEnded | retiring | steerFault | retireDone
  deriving DecidableEq, Repr

/-- A set of notice kinds (R167). -/
structure KindSet where
  granted : Bool := false
  yieldAsked : Bool := false
  revoked : Bool := false
  expired : Bool := false
  waitEnded : Bool := false
  retiring : Bool := false
  steerFault : Bool := false
  retireDone : Bool := false
  deriving DecidableEq, Repr

/-- The relation that TAKE NOTICE reports (Table 57). -/
inductive Relation where
  | none | exclusiveHolder | sharedHolder | waiting
  deriving DecidableEq, Repr

/-! ### Resource records -/

/-- The origin of a record; the creator is present in PLAIN records only (Table 7, R2). -/
inductive Origin where
  | defined
  | plain (creator : Agent)
  deriving DecidableEq, Repr

/-- The sharing class (Table 7). -/
inductive SharingClass where
  | exclusiveOnly | sharedAllowed
  deriving DecidableEq, Repr

/-- The yield policy; the grace is present only under FORCE (Table 7). -/
inductive YieldPolicy where
  | none
  | ask
  | force (grace : Nat)
  deriving DecidableEq, Repr

/-- The mode of a retirement (Table 37). -/
inductive RetireMode where
  | drain | immediate
  deriving DecidableEq, Repr

/-- The lifecycle; the retire requester and mode are present only while RETIRING (Table 7, R3). -/
inductive Lifecycle where
  | live
  | retiring (requester : Agent) (mode : RetireMode)
  deriving DecidableEq, Repr

/-- The target of a switch (section 7.4). -/
inductive SwitchTarget where
  | agent (a : Agent)
  | home
  deriving DecidableEq, Repr

/-- The occupancy (Table 8); the switch target is present only while SWITCHING (Table 7). -/
inductive Occupancy where
  | idle | heldX | heldS
  | switching (target : SwitchTarget)
  | faulted
  deriving DecidableEq, Repr

/-- A holder record (Table 13). `asked` and `grace` are core-domain state, the rest retention. -/
structure Holder where
  agent : Agent
  mode : GrantMode
  ticket : Ticket
  priority : Priority
  remaining : Term
  asked : Bool := false
  grace : Option Nat := Option.none
  deriving DecidableEq, Repr

/-- A wait cell in use (Table 26), core domain. -/
structure WaitCell where
  agent : Agent
  mode : WaitMode
  priority : Priority
  /-- The requested term as given; `ms 0` asks for the default term (R59). -/
  term : Term
  /-- The wait deadline, absent for a wait without limit and for an IN_FLIGHT request (R59). -/
  deadline : Option Nat
  /-- The switch-target flag. -/
  target : Bool
  deriving DecidableEq, Repr

/-- A resource record (Table 7). Its generation is the slot's (R2). -/
structure Record where
  key : Key
  origin : Origin
  sharing : SharingClass
  policy : YieldPolicy
  defaultTerm : Term
  maxTerm : Term
  unboundedAllowed : Bool
  group : Option GroupIx
  lifecycle : Lifecycle
  occupancy : Occupancy
  holders : List Holder
  queue : List WaitCell
  deriving DecidableEq, Repr

/-- One slot of the resource table: FREE when it holds no record (R1). -/
structure Slot where
  generation : Generation
  record : Option Record
  deriving DecidableEq, Repr

/-! ### Steering groups -/

/-- The select value a group drives (Table 40). -/
inductive Select where
  | agent (a : Agent)
  | park
  deriving DecidableEq, Repr

/-- The park policy (R126). -/
inductive ParkPolicy where
  | stay | home
  deriving DecidableEq, Repr

/-- The fields of a group that are present only while it is bound (Table 40). -/
structure Binding where
  entry : EntryIx
  home : Select
  parkPolicy : ParkPolicy
  timeout : Nat
  deriving DecidableEq, Repr

/-- The state of a group (R112). -/
inductive GroupState where
  | unbound | settled | switching | faulted
  deriving DecidableEq, Repr

/-- The handshake phase, with the timeout remaining in phase REQUESTING (Table 40), core domain. -/
inductive Phase where
  | deferred
  | requesting (remaining : Nat)
  deriving DecidableEq, Repr

/-- A steering group record (Table 40). -/
structure GroupRec where
  state : GroupState
  binding : Option Binding
  select : Select
  settleKnown : Bool
  phase : Option Phase
  /-- The STDONE level as the steering unit last took it, true when high (core domain). -/
  stdone : Bool
  deriving DecidableEq, Repr

/-! ### Agents and notices -/

/-- The roster state of an agent (Table 45). -/
inductive Roster where
  | offline | online | rejoining | fenced
  deriving DecidableEq, Repr

/-- An agent record (Table 44). Its three counts are those of the records and cells (R26, R60). -/
structure AgentRec where
  state : Roster
  holdQuota : Nat
  waitQuota : Nat
  cap : Priority
  create : Bool
  deriving DecidableEq, Repr

/-- A notice cell (R167), core domain; the generation is present while the set is not empty. -/
structure NoticeCell where
  kinds : KindSet := {}
  generation : Option Generation := Option.none
  deriving DecidableEq, Repr

/-! ### Channels -/

/-- The state of a channel (Table 53). -/
inductive ChannelState where
  | ready | executing | inFlight | reset
  deriving DecidableEq, Repr

/-- The parameter registers of a channel, 00h to 30h (Table 63); all zero after a reset (Table 54). -/
structure Params where
  handle : BitVec 16 := 0
  key : BitVec 32 := 0
  ticket : BitVec 32 := 0
  term : BitVec 32 := 0
  waitlim : BitVec 16 := 0
  mode : Byte := 0
  prio : Byte := 0
  agent : Byte := 0
  group : Byte := 0
  options : Byte := 0
  sharing : Byte := 0
  policy : Byte := 0
  home : Byte := 0
  grace : BitVec 16 := 0
  defterm : BitVec 32 := 0
  maxterm : BitVec 32 := 0
  parkpol : Byte := 0
  swtimeout : Byte := 0
  holdq : Byte := 0
  waitq : Byte := 0
  cap : Byte := 0
  plainpol : Byte := 0
  tickdiv : BitVec 16 := 0
  reclaim : BitVec 16 := 0
  plaindef : BitVec 16 := 0
  plainmax : BitVec 16 := 0
  defswto : Byte := 0
  deriving DecidableEq, Repr

/-- A latched command: its name and a copy of the parameters it reads (R159, Table 69). -/
structure Latched where
  cmd : Cmd
  params : Params
  deriving DecidableEq, Repr

/-- The view of one holder (R19). -/
structure HolderView where
  agent : Agent
  mode : GrantMode
  ticket : Ticket
  priority : Priority
  remaining : Term
  asked : Bool
  deriving DecidableEq, Repr

/-- The QUERY view (Table 12). -/
structure QueryView where
  handle : Handle
  key : Key
  origin : Origin
  lifecycle : Lifecycle
  occupancy : Occupancy
  sharing : SharingClass
  policy : YieldPolicy
  defaultTerm : Term
  maxTerm : Term
  unboundedAllowed : Bool
  group : Option GroupIx
  holders : List HolderView
  queueLength : Nat
  queueHead : Option (Agent × WaitMode)
  deriving DecidableEq, Repr

/-- The six CONFIGURE values (Table 51). -/
structure DeviceConfig where
  tickDiv : Nat
  window : Nat
  plainDef : Nat
  plainMax : Nat
  /-- The PLAIN yield policy is ASK (yes) or NONE (no). -/
  plainAsk : Bool
  swTimeout : Nat
  deriving DecidableEq, Repr

/-- The content of the result window (R184). -/
inductive Window where
  | absent
  /-- ATTACH and REJOIN: hold quota, wait quota, priority cap, create permission, boot agent. -/
  | attachInfo (holdQuota waitQuota : Nat) (cap : Priority) (create : Bool) (boot : Agent)
  /-- SET AGENT ending IN_USE: the three counts. -/
  | counts (holds nonUpgradeWaits waits : Nat)
  /-- CONFIGURE: the six values in force. -/
  | values (c : DeviceConfig)
  /-- QUERY: the stored view, shown a page at a time. -/
  | view (v : QueryView)
  deriving DecidableEq, Repr

/-- The result fields of a channel (R159, Table 63); a field not present with an outcome is absent. -/
structure Results where
  result : ResultCode := .none
  handle : Option Handle := Option.none
  priority : Option Priority := Option.none
  mode : Option GrantMode := Option.none
  ticket : Option Ticket := Option.none
  term : Option Term := Option.none
  agent : Option Agent := Option.none
  created : Option Bool := Option.none
  kinds : Option KindSet := Option.none
  relation : Option Relation := Option.none
  remaining : Option Nat := Option.none
  count : Option Nat := Option.none
  window : Window := .absent
  deriving DecidableEq, Repr

/-- A channel (Table 54, R182), core domain. -/
structure Channel where
  state : ChannelState
  params : Params := {}
  latched : Option Latched := Option.none
  completed : Option Cmd := Option.none
  results : Results := {}
  complete : Bool := false
  overrun : Bool := false
  /-- ATTNEN: bit 0 completion attention enable, bit 1 notice attention enable. -/
  attnen : Byte := 0
  viewPage : Byte := 0
  deriving DecidableEq, Repr

/-! ### The term timer unit -/

/-- An expiry event issued by the term timer unit and not yet taken by its owner (R45, R49, R69, R91,
R123, R179). -/
inductive Expiry where
  | term (e : EntryIx) (a : Agent) (t : Ticket)
  | wait (e : EntryIx) (a : Agent)
  | grace (e : EntryIx) (a : Agent) (t : Ticket)
  | switch (g : GroupIx)
  | window
  deriving DecidableEq, Repr

/-! ### The device -/

/-- Everything the part itself holds, retention and core domain. -/
structure Device where
  slots : Vector Slot 128
  notices : Vector (Vector NoticeCell 8) 128
  groups : Vector GroupRec 4
  agents : Vector AgentRec 8
  channels : Vector Channel 8
  /-- The boot agent number latched at cold reset (R132). -/
  boot : Agent
  /-- The ticket counter (R24). -/
  ticket : Ticket
  config : DeviceConfig
  /-- REFCLK periods since the last tick (R43), core domain. -/
  tickPhase : Nat
  /-- The divisor of the tick period in progress (R44). -/
  tickPeriod : Nat
  /-- Expiry events issued and not yet taken (Table 60), core domain. -/
  issued : List Expiry
  /-- The WARM RESET command is a cause of the warm reset now held (R173). -/
  cmdReset : Bool
  /-- The roster states recorded at the beginning of the warm reset now held (R174). -/
  recorded : Option (Vector Roster 8)
  /-- The reclaim countdown, present while a reclaim window runs (R176), core domain. -/
  reclaimLeft : Option Nat
  deriving DecidableEq, Repr

/-- The levels on the input pins, which are the board's (Table 67). -/
structure Pins where
  agrstLow : Vector Bool 8
  stdoneHigh : Vector Bool 4
  nresetLow : Bool
  coreAbsent : Bool
  deriving DecidableEq, Repr

/-! ### Cold-reset values -/

/-- A FREE slot after cold reset (R20). -/
def Slot.cold : Slot := { generation := 1, record := none }

/-- Entry 0 after cold reset (R5, R20). -/
def Record.control : Record :=
  { key := 0, origin := .defined, sharing := .exclusiveOnly, policy := .ask
    defaultTerm := .unbounded, maxTerm := .unbounded, unboundedAllowed := true, group := none
    lifecycle := .live, occupancy := .idle, holders := [], queue := [] }

/-- A steering group after cold reset, with STDONE sampled (R112). -/
def GroupRec.cold (stdone : Bool) : GroupRec :=
  { state := .unbound, binding := none, select := .park, settleKnown := false, phase := none, stdone }

/-- An agent record after cold reset (Table 44). -/
def AgentRec.cold (isBoot : Bool) : AgentRec :=
  { state := .offline, holdQuota := 16, waitQuota := 4, cap := if isBoot then 3 else 2, create := true }

/-- The CONFIGURE values after cold reset (Table 51). -/
def DeviceConfig.cold : DeviceConfig :=
  { tickDiv := 25000, window := 2000, plainDef := 1000, plainMax := 60000, plainAsk := true, swTimeout := 20 }

/-- A channel in RESET, with the values of Table 54 and R171. -/
def Channel.inReset : Channel := { state := .reset }

/-- A warm reset is held by a level on the board (R172). -/
def Pins.holdsReset (p : Pins) : Bool := p.nresetLow || p.coreAbsent

/-- The device at the end of a cold reset, with `boot` on BOOTSEL and `p` on its inputs (R20, R24, R58,
R112, R131, R132, R158, R159, R167, R172). -/
def Device.cold (boot : Agent) (p : Pins) : Device :=
  { slots := tabulate fun e => if e = 0 then { generation := 1, record := some .control } else .cold
    notices := Vector.replicate 128 (Vector.replicate 8 {})
    groups := tabulate fun g => .cold (tget p.stdoneHigh g)
    agents := tabulate fun a => .cold (a = boot)
    channels := tabulate fun a =>
      if p.holdsReset || tget p.agrstLow a then .inReset else { state := .ready }
    boot, ticket := 1, config := .cold
    tickPhase := 0, tickPeriod := DeviceConfig.cold.tickDiv, issued := [], cmdReset := false
    recorded := if p.holdsReset then some (Vector.replicate 8 .offline) else none
    reclaimLeft := none }

end Sys2Proof.Machine
end

