-- ==== Sys2Proof/Machine/Operands.lean ====
section
/-!
DEFINITION. The parameter registers: how a byte write reaches them (Table 63), which of them each command
latches (Table 69), and what their codes mean (R183, Tables 11, 15, 48, 51).
-/
namespace Sys2Proof.Machine

/-! ### Byte addresses (Table 63) -/

/-- A byte written to a parameter register address (Table 63). An address that is no parameter register
leaves them all as they were (R182). -/
def Params.writeByte (p : Params) (addr : RegAddr) (b : Byte) : Params :=
  let a := addr.toNat
  if a < 0x02 then { p with handle := withByte p.handle a b }
  else if a < 0x06 then { p with key := withByte p.key (a - 0x02) b }
  else if a < 0x0A then { p with ticket := withByte p.ticket (a - 0x06) b }
  else if a < 0x0E then { p with term := withByte p.term (a - 0x0A) b }
  else if a < 0x10 then { p with waitlim := withByte p.waitlim (a - 0x0E) b }
  else if a = 0x10 then { p with mode := b }
  else if a = 0x11 then { p with prio := b }
  else if a = 0x12 then { p with agent := b }
  else if a = 0x13 then { p with group := b }
  else if a = 0x14 then { p with options := b }
  else if a = 0x15 then { p with sharing := b }
  else if a = 0x16 then { p with policy := b }
  else if a = 0x17 then { p with home := b }
  else if a < 0x1A then { p with grace := withByte p.grace (a - 0x18) b }
  else if a < 0x1E then { p with defterm := withByte p.defterm (a - 0x1A) b }
  else if a < 0x22 then { p with maxterm := withByte p.maxterm (a - 0x1E) b }
  else if a = 0x22 then { p with parkpol := b }
  else if a = 0x23 then { p with swtimeout := b }
  else if a = 0x24 then { p with holdq := b }
  else if a = 0x25 then { p with waitq := b }
  else if a = 0x26 then { p with cap := b }
  else if a = 0x27 then { p with plainpol := b }
  else if a < 0x2A then { p with tickdiv := withByte p.tickdiv (a - 0x28) b }
  else if a < 0x2C then { p with reclaim := withByte p.reclaim (a - 0x2A) b }
  else if a < 0x2E then { p with plaindef := withByte p.plaindef (a - 0x2C) b }
  else if a < 0x30 then { p with plainmax := withByte p.plainmax (a - 0x2E) b }
  else if a = 0x30 then { p with defswto := b }
  else p

/-- The bytes of a transaction applied to the parameter registers in the order sent, so that the last
byte written to an address stands (R181). -/
def Params.writeAll (p : Params) (w : Writes) : Params :=
  w.foldl (fun p x => p.writeByte x.1 x.2) p

/-- The parameter registers as bytes from address 00h, for a read (Table 63). -/
def Params.bytes (p : Params) : List Byte :=
  bytesOf p.handle ++ bytesOf p.key ++ bytesOf p.ticket ++ bytesOf p.term ++ bytesOf p.waitlim ++
  [p.mode, p.prio, p.agent, p.group, p.options, p.sharing, p.policy, p.home] ++ bytesOf p.grace ++
  bytesOf p.defterm ++ bytesOf p.maxterm ++
  [p.parkpol, p.swtimeout, p.holdq, p.waitq, p.cap, p.plainpol] ++ bytesOf p.tickdiv ++
  bytesOf p.reclaim ++ bytesOf p.plaindef ++ bytesOf p.plainmax ++ [p.defswto]

/-! ### Latching (Table 69) -/

/-- The registers of DEFINE other than KEY, which AMEND latches as well (Table 69). OPTIONS gives bit 1. -/
def Params.latchRecord (p : Params) : Params :=
  { sharing := p.sharing, policy := p.policy, grace := p.grace, defterm := p.defterm
    maxterm := p.maxterm, options := p.options &&& 0x02, group := p.group, home := p.home
    parkpol := p.parkpol, swtimeout := p.swtimeout }

/-- The copy of the parameter registers that a command latches at its start; every register it does not
latch is left 0 and is not examined by it (R160, Table 69). -/
def Params.latch (p : Params) : Cmd → Params
  | .attach | .detach | .rejoin | .takeNotice | .warmReset => {}
  | .openEntry => { key := p.key, options := p.options &&& 0x01, sharing := p.sharing }
  | .query | .release | .downgrade | .cancel => { handle := p.handle }
  | .request =>
    { handle := p.handle, mode := p.mode, prio := p.prio, term := p.term, waitlim := p.waitlim }
  | .renew => { handle := p.handle, term := p.term }
  | .check => { handle := p.handle, ticket := p.ticket }
  | .retire => { handle := p.handle, mode := p.mode }
  | .define => { p.latchRecord with key := p.key }
  | .amend => { p.latchRecord with handle := p.handle }
  | .forceRelease => { handle := p.handle, agent := p.agent }
  | .fence | .unfence => { agent := p.agent }
  | .setAgent =>
    { agent := p.agent, holdq := p.holdq, waitq := p.waitq, cap := p.cap, options := p.options &&& 0x04 }
  | .configure =>
    { tickdiv := p.tickdiv, reclaim := p.reclaim, plaindef := p.plaindef, plainmax := p.plainmax
      plainpol := p.plainpol, defswto := p.defswto }
  | .clearFault => { group := p.group }

/-! ### Codes -/

/-- The 4-byte code of a term (R183). -/
def Term.code : Term → BitVec 32
  | .ms n => BitVec.ofNat 32 n
  | .unbounded => 0xFFFFFFFF

/-- TERM: 0, 1 to 65535 ms, or UNBOUNDED; `none` outside the range (R183, Table 15). -/
def requestedTerm (v : BitVec 32) : Option Term :=
  if v = 0xFFFFFFFF then some .unbounded
  else if v.toNat ≤ 65535 then some (.ms v.toNat)
  else none

/-- DEFTERM and MAXTERM: 1 to 65535 ms or UNBOUNDED; `none` outside the range (R183, Table 11). -/
def recordTerm (v : BitVec 32) : Option Term :=
  if v = 0xFFFFFFFF then some .unbounded
  else if 1 ≤ v.toNat ∧ v.toNat ≤ 65535 then some (.ms v.toNat)
  else none

/-- MODE of a REQUEST: 1 SHARED, 2 EXCLUSIVE, 3 UPGRADE (Table 63). -/
def requestMode (v : Byte) : Option WaitMode :=
  if v = 1 then some .shared else if v = 2 then some .exclusive else if v = 3 then some .upgrade
  else none

/-- MODE of a RETIRE: 1 DRAIN, 2 IMMEDIATE (Table 63). -/
def retireModeOf (v : Byte) : Option RetireMode :=
  if v = 1 then some .drain else if v = 2 then some .immediate else none

/-- PRIO and CAP: 0 to 3 (Tables 15 and 48). -/
def priorityOf (v : Byte) : Option Priority :=
  if h : v.toNat < 4 then some ⟨v.toNat, h⟩ else none

/-- AGENT: 0 to 7 (Table 63). -/
def agentOf (v : Byte) : Option Agent :=
  if h : v.toNat < 8 then some ⟨v.toNat, h⟩ else none

/-- A steering group named by its number, 1 to 4 (Table 63). -/
def groupOf (v : Byte) : Option GroupIx :=
  if h : 1 ≤ v.toNat ∧ v.toNat ≤ 4 then some ⟨v.toNat - 1, by omega⟩ else none

/-- CLASS: 0 EXCLUSIVE_ONLY, 1 SHARED_ALLOWED (Table 63). -/
def sharingOf (v : Byte) : Option SharingClass :=
  if v = 0 then some .exclusiveOnly else if v = 1 then some .sharedAllowed else none

/-- GRACE under FORCE: 1 to 4095 ms (Table 11). -/
def graceOf (v : BitVec 16) : Option Nat :=
  if 1 ≤ v.toNat ∧ v.toNat ≤ 4095 then some v.toNat else none

/-- POLICY with GRACE: 0 NONE, 1 ASK, 2 FORCE; the grace is examined under FORCE only (R12). -/
def policyOf (v : Byte) (grace : BitVec 16) : Option YieldPolicy :=
  if v = 0 then some .none
  else if v = 1 then some .ask
  else if v = 2 then (graceOf grace).map .force
  else none

/-- HOME: agent 0 to 7, or 8 for PARK (Table 63). -/
def homeOf (v : Byte) : Option Select :=
  if v = 8 then some .park else (agentOf v).map .agent

/-- PARKPOL: 0 STAY, 1 HOME (Table 63). -/
def parkPolicyOf (v : Byte) : Option ParkPolicy :=
  if v = 0 then some .stay else if v = 1 then some .home else none

/-- The steering part of DEFINE and AMEND: the group with the home, park policy and switch timeout it is
to take (Table 11). -/
structure SteerParams where
  group : GroupIx
  home : Select
  parkPolicy : ParkPolicy
  /-- 0 for the device default. -/
  timeout : Nat
  deriving DecidableEq, Repr

/-- GROUP with HOME, PARKPOL and SWTIMEOUT: 0 names no group and the other three are not examined; the
outer `none` is a value outside its range (R12). -/
def steerOf (p : Params) : Option (Option SteerParams) :=
  if p.group = 0 then some none
  else
    match groupOf p.group, homeOf p.home, parkPolicyOf p.parkpol with
    | some g, some h, some k => some (some ⟨g, h, k, p.swtimeout.toNat⟩)
    | _, _, _ => none

/-- UNBOUNDED stands above every number of milliseconds (R2). -/
def Term.le : Term → Term → Bool
  | _, .unbounded => true
  | .unbounded, .ms _ => false
  | .ms m, .ms n => decide (m ≤ n)

/-- A term clamped to a max term (R33). -/
def Term.clamp (t max : Term) : Term := if t.le max then t else max

/-- The parameters of a record as DEFINE and AMEND give them (Table 11). -/
structure RecordParams where
  sharing : SharingClass
  policy : YieldPolicy
  defaultTerm : Term
  maxTerm : Term
  unboundedAllowed : Bool
  steer : Option SteerParams
  deriving DecidableEq, Repr

/-- UNBOUNDED as a default term or max term asks for unbounded allowed (R12). -/
def RecordParams.unboundedRefused (q : RecordParams) : Bool :=
  !q.unboundedAllowed && (q.defaultTerm == .unbounded || q.maxTerm == .unbounded)

/-- The consistency checks of DEFINE and AMEND (R12): `none` where the command ends with BAD_PARAM. -/
def recordParams (p : Params) : Option RecordParams :=
  match sharingOf p.sharing, policyOf p.policy p.grace, recordTerm p.defterm, recordTerm p.maxterm,
      steerOf p with
  | some sharing, some policy, some defaultTerm, some maxTerm, some steer =>
    let q : RecordParams :=
      { sharing, policy, defaultTerm, maxTerm, unboundedAllowed := p.options.getLsbD 1, steer }
    if q.unboundedRefused then none
    else if !defaultTerm.le maxTerm then none
    else if steer.isSome && sharing == .sharedAllowed then none
    else some q
  | _, _, _, _, _ => none

/-- The configuration that SET AGENT gives (Table 48): `none` where a parameter is out of range. -/
def agentParams (p : Params) : Option (Agent × Nat × Nat × Priority × Bool) :=
  match agentOf p.agent, priorityOf p.cap with
  | some a, some cap =>
    if 1 ≤ p.holdq.toNat ∧ p.holdq.toNat ≤ 32 ∧ 1 ≤ p.waitq.toNat ∧ p.waitq.toNat ≤ 8 then
      some (a, p.holdq.toNat, p.waitq.toNat, cap, p.options.getLsbD 2)
    else none
  | _, _ => none

/-- The six values that CONFIGURE gives (Table 51): `none` where one is out of range. -/
def configParams (p : Params) : Option DeviceConfig :=
  if 1000 ≤ p.tickdiv.toNat ∧ p.tickdiv.toNat ≤ 50000 ∧ p.reclaim.toNat ≤ 60000 ∧
      1 ≤ p.plaindef.toNat ∧ 1 ≤ p.plainmax.toNat ∧ (p.plainpol = 0 ∨ p.plainpol = 1) ∧
      1 ≤ p.defswto.toNat then
    some { tickDiv := p.tickdiv.toNat, window := p.reclaim.toNat, plainDef := p.plaindef.toNat
           plainMax := p.plainmax.toNat, plainAsk := p.plainpol = 1, swTimeout := p.defswto.toNat }
  else none

/-! ### Handles -/

/-- The index part of a handle (R8). -/
def handleIndex (h : Handle) : Nat := (h >>> 8).toNat

/-- The generation part of a handle (R8). -/
def handleGeneration (h : Handle) : Generation := h.setWidth 8

/-- The handle that names slot `e` with generation `g`: index × 256 + generation (R8). -/
def handleOf (e : EntryIx) (g : Generation) : Handle := BitVec.ofNat 8 e.val ++ g

end Sys2Proof.Machine
end

