-- ==== Sys2Proof/Machine/Ops.lean ====
section
/-!
DEFINITION. The operations that commands and events share: access to the records, tickets, counts,
notices, completions, the ends of grants and waits, steering switches, the yield evaluation, the grant
decision, drain completion and departure.
-/
namespace Sys2Proof.Machine

/-! ### Access to the records -/

/-- Slot `e` of the resource table. -/
def Device.slot (d : Device) (e : EntryIx) : Slot := tget d.slots e
/-- The record in slot `e`, when the slot is not FREE (R1). -/
def Device.entry (d : Device) (e : EntryIx) : Option Record := (d.slot e).record
/-- The notice cell of agent `a` for slot `e` (R167). -/
def Device.notice (d : Device) (e : EntryIx) (a : Agent) : NoticeCell := tget (tget d.notices e) a
/-- Steering group record `g`. -/
def Device.group (d : Device) (g : GroupIx) : GroupRec := tget d.groups g
/-- Agent record `a`. -/
def Device.agent (d : Device) (a : Agent) : AgentRec := tget d.agents a
/-- Channel `a`. -/
def Device.chan (d : Device) (a : Agent) : Channel := tget d.channels a

def Device.setSlot (d : Device) (e : EntryIx) (x : Slot) : Device := { d with slots := tset d.slots e x }
def Device.setNotice (d : Device) (e : EntryIx) (a : Agent) (x : NoticeCell) : Device :=
  { d with notices := tset d.notices e (tset (tget d.notices e) a x) }
def Device.setGroup (d : Device) (g : GroupIx) (x : GroupRec) : Device := { d with groups := tset d.groups g x }
def Device.setAgent (d : Device) (a : Agent) (x : AgentRec) : Device := { d with agents := tset d.agents a x }
def Device.setChan (d : Device) (a : Agent) (x : Channel) : Device := { d with channels := tset d.channels a x }

/-- The record of entry `e` changed by `f`; a FREE slot stays FREE. -/
def Device.modifyEntry (d : Device) (e : EntryIx) (f : Record → Record) : Device :=
  d.setSlot e { d.slot e with record := (d.slot e).record.map f }

/-- The roster state of agent `a` set. -/
def Device.setRoster (d : Device) (a : Agent) (x : Roster) : Device :=
  d.setAgent a { d.agent a with state := x }

/-- The agent is ONLINE: attached (Table 45). -/
abbrev Device.Online (d : Device) (a : Agent) : Prop := (d.agent a).state = .online

/-! ### What a record says of an agent -/

/-- The holder record of agent `a` (no list names an agent twice, R4). -/
def Record.holder (r : Record) (a : Agent) : Option Holder := r.holders.find? fun h => h.agent = a
/-- Agent `a` holds the entry. -/
def Record.heldBy (r : Record) (a : Agent) : Bool := (r.holder a).isSome
/-- The wait cell of agent `a` (no queue holds two cells of one agent, R62). -/
def Record.cell (r : Record) (a : Agent) : Option WaitCell := r.queue.find? fun c => c.agent = a
/-- Agent `a` has a cell in the queue. -/
def Record.waitedBy (r : Record) (a : Agent) : Bool := (r.cell a).isSome

/-- The entry is RETIRING (R3). -/
def Record.isRetiring (r : Record) : Bool :=
  match r.lifecycle with
  | .live => false
  | .retiring _ _ => true

/-- The entry is SWITCHING (Table 8). -/
def Record.isSwitching (r : Record) : Bool :=
  match r.occupancy with
  | .switching _ => true
  | _ => false

/-- The grant decision may run: the entry is LIVE and neither SWITCHING nor FAULTED (R70). -/
def Record.decidable (r : Record) : Bool :=
  !r.isRetiring && !r.isSwitching && r.occupancy != .faulted

/-- The occupancy that a holder list gives an entry with no switch and no fault (R4, R38). -/
def occupancyOf : List Holder → Occupancy
  | [] => .idle
  | h :: _ => if h.mode = .exclusive then .heldX else .heldS

/-! ### Counts, keys and the pool -/

/-- Sum over the resource records. -/
def Device.sumEntries (d : Device) (f : Record → Nat) : Nat :=
  (allEntries.map fun e => match d.entry e with | some r => f r | none => 0).sum

/-- The hold count of an agent: the holder records that name it (R26). -/
def Device.holdCount (d : Device) (a : Agent) : Nat :=
  d.sumEntries fun r => r.holders.countP fun h => h.agent = a
/-- The wait count of an agent: the wait cells that name it (R60). -/
def Device.waitCount (d : Device) (a : Agent) : Nat :=
  d.sumEntries fun r => r.queue.countP fun c => c.agent = a
/-- The non-upgrade wait count of an agent (R60). -/
def Device.nonUpgradeWaits (d : Device) (a : Agent) : Nat :=
  d.sumEntries fun r => r.queue.countP fun c => c.agent = a ∧ c.mode ≠ .upgrade
/-- The wait cells in use: the sum of the lengths of all wait queues (R58). -/
def Device.cellsInUse (d : Device) : Nat := d.sumEntries fun r => r.queue.length

/-- The agent is below its hold quota (R29, R134). -/
def Device.belowHoldQuota (d : Device) (a : Agent) : Bool :=
  decide (d.holdCount a + d.nonUpgradeWaits a < (d.agent a).holdQuota)

/-- The key index: the slot that carries the key, with its record (R6). -/
def Device.findKey (d : Device) (k : Key) : Option (EntryIx × Record) :=
  allEntries.findSome? fun e =>
    match d.entry e with
    | some r => if r.key = k then some (e, r) else none
    | none => none

/-- The lowest-numbered FREE slot (R1). -/
def Device.freeSlot (d : Device) : Option EntryIx :=
  allEntries.find? fun e => (d.entry e).isNone

/-- The control holder: the agent that holds entry 0 EXCLUSIVE while ONLINE (R147). There is none while a warm reset is
held, which is while the roster states are recorded (R174, R175). -/
def Device.controlHolder (d : Device) : Option Agent :=
  match d.recorded, d.entry 0 with
  | some _, _ | none, none => none
  | none, some r =>
    match r.holders.find? fun h => h.mode = .exclusive ∧ d.Online h.agent with
    | some h => some h.agent
    | none => none

/-! ### Handles -/

/-- The check of a handle, made before anything else a command does with the entry (R8). -/
def Device.lookup (d : Device) (h : Handle) : Except ResultCode (EntryIx × Record) :=
  if lt : handleIndex h < 128 then
    if handleGeneration h = 0 then .error .badParam
    else
      let e : EntryIx := ⟨handleIndex h, lt⟩
      match d.entry e with
      | none => .error .staleHandle
      | some r =>
        if handleGeneration h = (d.slot e).generation then .ok (e, r) else .error .staleHandle
  else .error .badParam

/-- The handle of the record now in slot `e`. -/
def Device.handleFor (d : Device) (e : EntryIx) : Handle := handleOf e (d.slot e).generation

/-! ### Tickets and granted terms -/

/-- The counter's next value; FFFFFFFFh advances to 1, so 0 is skipped (R24). -/
def nextTicket (t : Ticket) : Ticket := if t = 0xFFFFFFFF then 1 else t + 1

/-- The counter advances by one (R24). -/
def Device.advanceTicket (d : Device) : Device := { d with ticket := nextTicket d.ticket }

/-- The granted term: a requested 0 is replaced by the default term, and the result is clamped to the max
term (R33). -/
def Record.grantedTerm (r : Record) (t : Term) : Term :=
  (if t = .ms 0 then r.defaultTerm else t).clamp r.maxTerm

/-! ### Notices -/

/-- Kind `k` in or out of a set. -/
def KindSet.set (s : KindSet) (k : NoticeKind) (v : Bool) : KindSet :=
  match k with
  | .granted => { s with granted := v }
  | .yieldAsked => { s with yieldAsked := v }
  | .revoked => { s with revoked := v }
  | .expired => { s with expired := v }
  | .waitEnded => { s with waitEnded := v }
  | .retiring => { s with retiring := v }
  | .steerFault => { s with steerFault := v }
  | .retireDone => { s with retireDone := v }

/-- Kind `k` is in the set. -/
def KindSet.has (s : KindSet) : NoticeKind → Bool
  | .granted => s.granted
  | .yieldAsked => s.yieldAsked
  | .revoked => s.revoked
  | .expired => s.expired
  | .waitEnded => s.waitEnded
  | .retiring => s.retiring
  | .steerFault => s.steerFault
  | .retireDone => s.retireDone

/-- No kind is in the set. -/
def KindSet.isEmpty (s : KindSet) : Bool := s == {}

/-- A cell with a pending kind (R166). -/
def NoticeCell.pending (c : NoticeCell) : Bool := !c.kinds.isEmpty

/-- A kind joins the pending set; a set that was empty stores the generation (R167). -/
def NoticeCell.add (c : NoticeCell) (k : NoticeKind) (g : Generation) : NoticeCell :=
  { kinds := c.kinds.set k true, generation := if c.pending then c.generation else some g }

/-- One kind taken out; a cell whose set becomes empty holds no generation (R167). -/
def NoticeCell.drop (c : NoticeCell) (k : NoticeKind) : NoticeCell :=
  let ks := c.kinds.set k false
  { kinds := ks, generation := if ks.isEmpty then none else c.generation }

/-- Every kind but RETIRE_DONE cleared (R106). -/
def NoticeCell.keepRetireDone (c : NoticeCell) : NoticeCell :=
  let ks : KindSet := { retireDone := c.kinds.retireDone }
  { kinds := ks, generation := if ks.isEmpty then none else c.generation }

/-- A post to an agent for a slot about the record of generation `g`; made only to an ONLINE agent
(R167). -/
def Device.postGen (d : Device) (e : EntryIx) (a : Agent) (k : NoticeKind) (g : Generation) : Device :=
  if d.Online a then d.setNotice e a ((d.notice e a).add k g) else d

/-- A post about the record now in slot `e` (R167). -/
def Device.post (d : Device) (e : EntryIx) (a : Agent) (k : NoticeKind) : Device :=
  d.postGen e a k (d.slot e).generation

/-- A kind removed from a cell, as a withdrawal does (R88, R167). -/
def Device.unpost (d : Device) (e : EntryIx) (a : Agent) (k : NoticeKind) : Device :=
  d.setNotice e a ((d.notice e a).drop k)

/-- Every notice cell of an agent cleared (R138 step 4). -/
def Device.clearAgentNotices (d : Device) (a : Agent) : Device :=
  { d with notices := tabulate fun e => tset (tget d.notices e) a {} }

/-- Every notice cell of a slot cleared, RETIRE_DONE included (R9). -/
def Device.clearSlotNotices (d : Device) (e : EntryIx) : Device :=
  { d with notices := tset d.notices e (Vector.replicate 8 {}) }

/-- The notice cells of a slot cleared of every kind except RETIRE_DONE (R106). -/
def Device.keepRetireDone (d : Device) (e : EntryIx) : Device :=
  { d with notices := tset d.notices e (tabulate fun a => (d.notice e a).keepRetireDone) }

/-! ### Completions -/

/-- A completion: the result fields written, COMPLETE set, the latched command discarded, the channel
READY (R163). -/
def Channel.finish (c : Channel) (cmd : Option Cmd) (r : Results) : Channel :=
  { c with state := .ready, latched := none, completed := cmd, results := r, complete := true }

/-- A completion on channel `ch`. -/
def Device.finish (d : Device) (ch : Agent) (cmd : Cmd) (r : Results) : Device :=
  d.setChan ch ((d.chan ch).finish (some cmd) r)

/-- The channel of `a` is IN_FLIGHT with a REQUEST on entry `e` (R121). -/
def Device.inFlightOn (d : Device) (a : Agent) (e : EntryIx) : Bool :=
  (d.chan a).state == .inFlight &&
    match (d.chan a).latched with
    | some l => handleIndex l.params.handle == e.val
    | none => false

/-- The end of a wait cell reaches its agent: the completion of its IN_FLIGHT REQUEST with `code` and the
clamped priority, or otherwise the notice `k` (R122, R123, R101). -/
def Device.tellWaiter (d : Device) (e : EntryIx) (c : WaitCell) (code : ResultCode) (k : NoticeKind) :
    Device :=
  if d.inFlightOn c.agent e then
    d.finish c.agent .request { result := code, priority := some c.priority }
  else d.post e c.agent k

/-! ### Grants and waits -/

/-- A holder record made on entry `e`, with the occupancy it gives (R22, R32, R38). -/
def Device.addHolder (d : Device) (e : EntryIx) (h : Holder) : Device :=
  d.modifyEntry e fun r =>
    let hs := r.holders ++ [h]
    { r with holders := hs, occupancy := occupancyOf hs }

/-- A grant: a holder record with the counter's ticket; the counter advances (R24, R32, R76). `term` is
the granted term. -/
def Device.newGrant (d : Device) (e : EntryIx) (a : Agent) (mode : GrantMode) (prio : Priority)
    (term : Term) : Device :=
  (d.addHolder e { agent := a, mode, ticket := d.ticket, priority := prio, remaining := term }).advanceTicket

/-- A SHARED holder record converted to EXCLUSIVE, with a new ticket, the request's priority and granted
term, the flag clear and no grace (R34, R71, R89). -/
def Device.convertHolder (d : Device) (e : EntryIx) (a : Agent) (prio : Priority) (reqTerm : Term) :
    Device :=
  (d.modifyEntry e fun r =>
    { r with
      holders := r.holders.map fun h =>
        if h.agent = a then
          { h with mode := .exclusive, ticket := d.ticket, priority := prio
                   remaining := r.grantedTerm reqTerm, asked := false, grace := none }
        else h
      occupancy := .heldX }).advanceTicket

/-- The cell of agent `a` removed from the queue of entry `e` (R66). -/
def Device.removeCell (d : Device) (e : EntryIx) (a : Agent) : Device :=
  d.modifyEntry e fun r => { r with queue := r.queue.filter fun c => c.agent ≠ a }

/-- The grant of agent `a` on entry `e` ends: its holder record is removed, and its UPGRADE cell with it,
and the occupancy follows the holders left (R36 to R38, R50, R51, R62, R92). -/
def Device.endGrant (d : Device) (e : EntryIx) (a : Agent) : Device :=
  d.modifyEntry e fun r =>
    let hs := r.holders.filter fun h => h.agent ≠ a
    { r with
      holders := hs
      queue := r.queue.filter fun c => ¬ (c.agent = a ∧ c.mode = .upgrade)
      occupancy := occupancyOf hs }

/-- A queue with a cell inserted (R61): UPGRADE at the front, every other cell behind the front UPGRADE
cell and every cell of equal or higher priority, and ahead of every cell of lower priority. -/
def insertCell (c : WaitCell) : List WaitCell → List WaitCell
  | [] => [c]
  | x :: q =>
    if c.mode = .upgrade then c :: x :: q
    else if x.mode = .upgrade ∨ c.priority ≤ x.priority then x :: insertCell c q
    else c :: x :: q

/-- A grant made from a SHARED or EXCLUSIVE cell (R76). -/
def Device.grantCell (d : Device) (e : EntryIx) (c : WaitCell) : Device :=
  match d.entry e with
  | none => d
  | some r =>
    (d.removeCell e c.agent).newGrant e c.agent (if c.mode = .shared then .shared else .exclusive)
      c.priority (r.grantedTerm c.term)

/-! ### Steering -/

/-- The select value of a switch target: the agent's number, or the home (R118). -/
def Binding.targetValue (b : Binding) : SwitchTarget → Select
  | .agent a => .agent a
  | .home => b.home

/-- The group selects agent `a` with settle known (R72). -/
def GroupRec.connects (x : GroupRec) (a : Agent) : Bool := x.select == .agent a && x.settleKnown

/-- A switch enters phase REQUESTING: the target value is driven, settle known becomes no, STREQ is
asserted and the timeout starts (R118). -/
def GroupRec.enterRequesting (x : GroupRec) (b : Binding) (t : SwitchTarget) : GroupRec :=
  { x with select := b.targetValue t, settleKnown := false, phase := some (.requesting b.timeout) }

/-- The cell of a switch's target agent gets the switch-target flag (R59, R72). -/
def markTarget (t : SwitchTarget) (q : List WaitCell) : List WaitCell :=
  match t with
  | .home => q
  | .agent a => q.map fun c => if c.agent = a then { c with target := true } else c

/-- A switch started for group `g` and its entry: both become SWITCHING; with STDONE low the switch enters
phase REQUESTING at once, with STDONE high it waits in phase DEFERRED (R117). -/
def Device.startSwitch (d : Device) (e : EntryIx) (g : GroupIx) (t : SwitchTarget) : Device :=
  match (d.group g).binding with
  | none => d
  | some b =>
    let x := { d.group g with state := .switching, phase := some .deferred }
    (d.modifyEntry e fun r => { r with occupancy := .switching t, queue := markTarget t r.queue }).setGroup g
      (if x.stdone then x else x.enterRequesting b t)

/-- A return to home is due on a group of an entry with no holders and nobody waiting (R74, R115, R126). -/
def GroupRec.homeDue (x : GroupRec) : Bool :=
  match x.binding with
  | none => false
  | some b => b.parkPolicy == .home && x.select != b.home

/-- A group unbound: it keeps its select value and its settle known, and STREQ is low (R105, R116). -/
def GroupRec.unbind (x : GroupRec) : GroupRec :=
  { x with state := .unbound, binding := none, phase := none }

/-- The group of a binding, if the entry has one, unbound (R116). -/
def Device.unbindGroup (d : Device) : Option GroupIx → Device
  | none => d
  | some g => d.setGroup g (d.group g).unbind

/-! ### The yield logic -/

/-- The demand against a holder's agent: the highest priority among the cells of the queue that belong to
another agent; absent when there are none (R83). -/
def demandAgainst (a : Agent) (q : List WaitCell) : Option Priority :=
  ((q.filter fun c => c.agent ≠ a).map (·.priority)).max?

/-- The priority is below the demand; an absent demand counts as below every priority (R83). -/
def belowDemand (p : Priority) : Option Priority → Bool
  | none => false
  | some x => decide (p < x)

/-- What an evaluation does with one holder record (R86). -/
inductive AskOutcome where
  | keep | ask | withdraw
  deriving DecidableEq, Repr

/-- The outcome of an evaluation for a holder record (R86); under NONE nothing is done (R84, R85). -/
def askOutcome (policy : YieldPolicy) (q : List WaitCell) (online : Bool) (h : Holder) : AskOutcome :=
  if policy = .none then .keep
  else if h.asked then
    if belowDemand h.priority (demandAgainst h.agent q) then .keep else .withdraw
  else if belowDemand h.priority (demandAgainst h.agent q) && online then .ask
  else .keep

/-- The holder record after an evaluation: an ask sets the flag and, under FORCE, starts the grace at its
full value (R87); a withdrawal clears the flag and discards the grace (R88). -/
def Holder.afterAsk (h : Holder) (policy : YieldPolicy) : AskOutcome → Holder
  | .keep => h
  | .ask => { h with asked := true, grace := match policy with | .force g => some g | _ => none }
  | .withdraw => { h with asked := false, grace := none }

/-- The notice of an evaluation's outcome: YIELD_ASKED posted or removed (R87, R88). -/
def Device.tellAsk (d : Device) (e : EntryIx) (a : Agent) : AskOutcome → Device
  | .keep => d
  | .ask => d.post e a .yieldAsked
  | .withdraw => d.unpost e a .yieldAsked

/-- The yield logic evaluates entry `e` (R85, R86). -/
def Device.evaluate (d : Device) (e : EntryIx) : Device :=
  match d.entry e with
  | none => d
  | some r =>
    let out (h : Holder) : AskOutcome := askOutcome r.policy r.queue (d.Online h.agent) h
    let d' := d.modifyEntry e fun r => { r with holders := r.holders.map fun h => h.afterAsk r.policy (out h) }
    r.holders.foldl (fun d h => d.tellAsk e h.agent (out h)) d'

/-! ### The grant decision -/

/-- The boot agent may be granted the control lease: ONLINE and below its hold quota (R134, R151). -/
def Device.bootEligible (d : Device) : Bool :=
  decide (d.Online d.boot) && d.belowHoldQuota d.boot

/-- The automatic grant of the control lease to the boot agent: EXCLUSIVE, priority 3, UNBOUNDED, with a
GRANTED notice (R151). -/
def Device.grantControlLease (d : Device) : Device :=
  (d.newGrant 0 d.boot .exclusive 3 .unbounded).post 0 d.boot .granted

/-- A cell granted by the grant decision, with its GRANTED notice (R76, R77). -/
def Device.grantQueued (d : Device) (e : EntryIx) (c : WaitCell) : Device :=
  (d.grantCell e c).post e c.agent .granted

/-- The grant decision with an empty queue (R74, R151). -/
def Device.decideIdle (d : Device) (e : EntryIx) (r : Record) : Device :=
  if r.holders ≠ [] then d
  else
    match r.group with
    | some g => if (d.group g).homeDue then d.startSwitch e g .home else d
    | none => if e = 0 && d.bootEligible then d.grantControlLease else d

/-- The grant decision with an UPGRADE cell at the front (R71). -/
def Device.decideUpgrade (d : Device) (e : EntryIx) (r : Record) (c : WaitCell) : Device :=
  if r.holders.map (·.agent) = [c.agent] then
    ((d.removeCell e c.agent).convertHolder e c.agent c.priority c.term).post e c.agent .granted
  else d

/-- The grant decision with an EXCLUSIVE cell at the head (R72). -/
def Device.decideExclusive (d : Device) (e : EntryIx) (r : Record) (c : WaitCell) : Device :=
  if r.holders ≠ [] then d
  else
    match r.group with
    | none => d.grantQueued e c
    | some g =>
      if (d.group g).connects c.agent then d.grantQueued e c else d.startSwitch e g (.agent c.agent)

/-- The grant decision with a SHARED cell at the head: the batch of SHARED cells ahead of the first
EXCLUSIVE cell (R73). -/
def Device.decideShared (d : Device) (e : EntryIx) (r : Record) : Device :=
  if r.holders.any fun h => h.mode = .exclusive then d
  else (r.queue.takeWhile fun c => c.mode = .shared).foldl (fun d c => d.grantQueued e c) d

/-- The grant decision of entry `e`, a single pass (R70 to R75). -/
def Device.grantDecision (d : Device) (e : EntryIx) : Device :=
  match d.entry e with
  | none => d
  | some r =>
    if r.decidable then
      match r.queue with
      | [] => d.decideIdle e r
      | c :: _ =>
        match c.mode with
        | .upgrade => d.decideUpgrade e r c
        | .exclusive => d.decideExclusive e r c
        | .shared => d.decideShared e r
    else d

/-! ### Drain completion -/

/-- A generation advances by one; 255 advances to 1 (R7). -/
def nextGeneration (g : Generation) : Generation := if g = 255 then 1 else g + 1

/-- Drain completion of entry `e` (R105, R106): the slot becomes FREE with the next generation, the group
is unbound, the notice cells of the slot are cleared, and RETIRE_DONE goes to an ONLINE requester. -/
def Device.drain (d : Device) (e : EntryIx) (r : Record) (requester : Agent) : Device :=
  let g := (d.slot e).generation
  let d := d.unbindGroup r.group
  let d := d.setSlot e { generation := nextGeneration g, record := none }
  (d.keepRetireDone e).postGen e requester .retireDone g

/-- A RETIRING entry with no holders and no switch in flight reaches drain completion (R104). -/
def Device.checkDrain (d : Device) (e : EntryIx) : Device :=
  match d.entry e with
  | none => d
  | some r =>
    match r.lifecycle with
    | .live => d
    | .retiring q _ => if r.holders = [] ∧ r.isSwitching = false then d.drain e r q else d

/-- An entry whose holders or queue an event has changed is handed on: the grant decision on a LIVE entry,
drain completion on a RETIRING one, and the yield evaluation at the end (R37, R51, R66, R93). -/
def Device.handOn (d : Device) (e : EntryIx) : Device :=
  ((d.grantDecision e).checkDrain e).evaluate e

/-- A grant revoked, with REVOKED to an ONLINE agent, and the entry handed on (R92, R93). -/
def Device.revoke (d : Device) (e : EntryIx) (a : Agent) : Device :=
  ((d.endGrant e a).post e a .revoked).handOn e

/-! ### Departure -/

/-- Step 2 of a departure on one entry: the agent's cell is removed; its IN_FLIGHT REQUEST completes
ABORTED (R138). -/
def Device.departWait (d : Device) (e : EntryIx) (a : Agent) : Device :=
  match (d.entry e).bind (·.cell a) with
  | none => d
  | some c =>
    let d :=
      if d.inFlightOn a e then
        d.finish a .request { result := .aborted, priority := some c.priority }
      else d
    (d.removeCell e a).grantDecision e

/-- Step 3 of a departure on one entry: the agent's holder record is removed (R138, R139). -/
def Device.departHold (d : Device) (e : EntryIx) (a : Agent) : Device :=
  match d.entry e with
  | none => d
  | some r => if r.heldBy a then ((d.endGrant e a).grantDecision e).checkDrain e else d

/-- The departing agent holds or waits on entry `e`. -/
def Device.concerns (d : Device) (e : EntryIx) (a : Agent) : Bool :=
  match d.entry e with
  | none => false
  | some r => r.heldBy a || r.waitedBy a

/-- The work of departures on one entry, which is evaluated at its end (R85, R138). Taking the entries one
by one in ascending order gives the tickets the order of R25. -/
def Device.departEntry (as : List Agent) (d : Device) (e : EntryIx) : Device :=
  if as.any (d.concerns e) then
    (as.foldl (fun d a => d.departHold e a) (as.foldl (fun d a => d.departWait e a) d)).evaluate e
  else d

/-- When no agent is REJOINING any longer the reclaim countdown is discarded (R177). -/
def Device.closeWindow (d : Device) : Device :=
  if allAgents.any fun a => (d.agent a).state = .rejoining then d else { d with reclaimLeft := none }

/-- The departure of the agents `as` to the state `dest` (R138, R139): they are not ONLINE from the first
step, their waits and holds go entry by entry, their notice cells are cleared, they take `dest`. -/
def Device.depart (d : Device) (as : List Agent) (dest : Roster) : Device :=
  let d := as.foldl (fun d a => d.setRoster a .offline) d
  let d := allEntries.foldl (Device.departEntry as) d
  let d := as.foldl (fun d a => d.clearAgentNotices a) d
  (as.foldl (fun d a => d.setRoster a dest) d).closeWindow

end Sys2Proof.Machine
end

