-- ==== Sys2Proof/Machine/State.lean ====
section
/-!
DEFINITION. The machine's state: the levels on the input pins, the device while its retention supply is
present, and the queue of commands waiting; the reasons a step could stop; the state after cold reset.
-/
namespace Sys2Proof.Machine

/-- No rule of the ULM-8 stops the part: a refusal is a result code, a failure after completion is a
notice, a switch that times out is ordinary state. No meaning faults. -/
inductive Fault where
  deriving DecidableEq, Repr

/-- The reasons a command could be refused by the model. -/
inductive Refusal where
  /-- Raised by an arm of `exec` that has no meaning yet (safe: the model stops). No arm raises it. -/
  | notModelled (mnemonic : String)
  deriving DecidableEq, Repr

/-- The state of the machine. -/
structure State where
  /-- The levels on the input pins. -/
  pins : Pins
  /-- The device; absent while the retention supply is absent (R172). -/
  dev : Option Device
  /-- The commands waiting, first in, first out. -/
  pending : List Instr
  deriving DecidableEq, Repr

/-- The inputs as `State.reset` has them: no reset input low, both supplies present, STDONE low. DESIGN CHOICE (log 4):
the levels on the inputs are the board's. -/
def Pins.quiet : Pins :=
  { agrstLow := Vector.replicate 8 false, stdoneHigh := Vector.replicate 4 false
    nresetLow := false, coreAbsent := false }

/-- The machine right after cold reset, with 0 on BOOTSEL[2:0] and quiet inputs (R20, R112, R131, R159). -/
def State.reset : State :=
  { pins := .quiet, dev := some (.cold 0 .quiet), pending := [] }

end Sys2Proof.Machine
end

