-- ==== Sys2Proof/Machine/Flags.lean ====
section
/-!
DEFINITION. What the outside sees: the codes of the result fields, STATUS, the result window, the whole
channel register block as a read shows it (Tables 63, 65 and 66, R181 to R184), ATTN# (R166) and the
steering outputs (R113).
-/
namespace Sys2Proof.Machine

/-! ### Codes -/

/-- Table 65. -/
def ResultCode.code : ResultCode → Byte
  | .none => 0x00 | .ok => 0x01 | .granted => 0x02 | .queued => 0x03 | .current => 0x04
  | .stale => 0x05 | .unavailable => 0x06 | .aborted => 0x07 | .badParam => 0x08
  | .notAttached => 0x09 | .staleHandle => 0x0A | .noEntry => 0x0B | .alreadyExists => 0x0C
  | .tableFull => 0x0D | .entryBusy => 0x0E | .retiring => 0x0F | .modeConflict => 0x10
  | .alreadyHeld => 0x11 | .alreadyWaiting => 0x12 | .notPermitted => 0x13 | .notHolder => 0x14
  | .notWaiting => 0x15 | .upgradeConflict => 0x16 | .holdQuota => 0x17 | .waitQuota => 0x18
  | .queueFull => 0x19 | .steerFault => 0x1A | .inUse => 0x1B | .noNotice => 0x1C | .wrongState => 0x1D

/-- The bit `n` of a byte, set when `b` holds. -/
def bitOf (b : Bool) (n : Nat) : Byte := if b then 1 <<< n else 0

/-- Table 66. -/
def KindSet.code (k : KindSet) : Byte :=
  bitOf k.granted 0 ||| bitOf k.yieldAsked 1 ||| bitOf k.revoked 2 ||| bitOf k.expired 3 |||
  bitOf k.waitEnded 4 ||| bitOf k.retiring 5 ||| bitOf k.steerFault 6 ||| bitOf k.retireDone 7

/-- R_MODE: 1 SHARED, 2 EXCLUSIVE (Table 63). -/
def GrantMode.code : GrantMode → Byte
  | .shared => 1 | .exclusive => 2

/-- MODE of a REQUEST (Table 63). -/
def WaitMode.code : WaitMode → Byte
  | .shared => 1 | .exclusive => 2 | .upgrade => 3

/-- R_REL (Table 63). -/
def Relation.code : Relation → Byte
  | .none => 0 | .exclusiveHolder => 1 | .sharedHolder => 2 | .waiting => 3

/-- POLICY (Table 63). -/
def YieldPolicy.code : YieldPolicy → Byte
  | .none => 0 | .ask => 1 | .force _ => 2

/-- CLASS (Table 63). -/
def SharingClass.code : SharingClass → Byte
  | .exclusiveOnly => 0 | .sharedAllowed => 1

/-- The occupancy in page 0 (R184). -/
def Occupancy.code : Occupancy → Byte
  | .idle => 0 | .heldX => 1 | .heldS => 2 | .switching _ => 3 | .faulted => 4

/-- MODE of a RETIRE (Table 63). -/
def RetireMode.code : RetireMode → Byte
  | .drain => 1 | .immediate => 2

/-- The switch target in page 1: 0 to 7, or 8 for HOME (R184). -/
def SwitchTarget.code : SwitchTarget → Byte
  | .agent a => BitVec.ofNat 8 a.val
  | .home => 8

/-- A yes or no as 1 or 0. -/
def boolCode (b : Bool) : Byte := if b then 1 else 0

/-- An agent by its number. -/
def agentCode (a : Agent) : Byte := BitVec.ofNat 8 a.val

/-- A number in a one-byte field. -/
def natCode (n : Nat) : Byte := BitVec.ofNat 8 n

/-! ### The result window (R184) -/

/-- A one-byte field of a page; an absent one reads FFh. -/
def pageByte (b : Option Byte) : List Byte := [b.getD 0xFF]

/-- Bytes filled up with 00h to the 16 of the window (R184). -/
def pad16 (l : List Byte) : List Byte := (l ++ List.replicate 16 0).take 16

/-- Page 0 of the QUERY view. -/
def QueryView.page0 (v : QueryView) : List Byte :=
  bytesOf v.key ++
  [match v.origin with | .defined => (0 : Byte) | .plain _ => 1] ++
  pageByte (match v.origin with | .defined => none | .plain a => some (agentCode a)) ++
  [match v.lifecycle with | .live => (0 : Byte) | .retiring _ _ => 1] ++
  [v.occupancy.code, v.sharing.code, v.policy.code] ++
  (match v.policy with | .force g => bytesOf (BitVec.ofNat 16 g) | _ => [0xFF, 0xFF]) ++
  [natCode v.holders.length, natCode v.queueLength] ++
  pageByte (v.queueHead.map fun x => agentCode x.1) ++
  pageByte (v.queueHead.map fun x => x.2.code)

/-- Page 1 of the QUERY view. -/
def QueryView.page1 (v : QueryView) : List Byte :=
  bytesOf v.defaultTerm.code ++ bytesOf v.maxTerm.code ++ [boolCode v.unboundedAllowed] ++
  pageByte (v.group.map fun g => natCode (g.val + 1)) ++
  pageByte (match v.occupancy with | .switching t => some t.code | _ => none) ++
  pageByte (match v.lifecycle with | .retiring _ m => some m.code | .live => none) ++
  pageByte (match v.lifecycle with | .retiring q _ => some (agentCode q) | .live => none)

/-- Page 2 + n of the QUERY view, for agent n. -/
def QueryView.holderPage (v : QueryView) (n : Nat) : List Byte :=
  match v.holders.find? fun h => h.agent.val = n with
  | some h =>
    [1, h.mode.code, natCode h.priority.val, boolCode h.asked] ++ bytesOf h.ticket ++
      bytesOf h.remaining.code
  | none => 0 :: List.replicate 11 0xFF

/-- The page of a QUERY view that VIEWPAGE shows; 10 or more shows 00h in every byte (R184). -/
def QueryView.page (v : QueryView) (n : Nat) : List Byte :=
  pad16 (if n = 0 then v.page0 else if n = 1 then v.page1 else if n < 10 then v.holderPage (n - 2) else [])

/-- The 16 bytes of the window (R184). -/
def Window.bytes (w : Window) (page : Byte) : List Byte :=
  match w with
  | .absent => pad16 []
  | .attachInfo h q c p b =>
    pad16 [natCode h, natCode q, natCode c.val, boolCode p, agentCode b]
  | .counts h n q => pad16 [natCode h, natCode n, natCode q]
  | .values c =>
    pad16 (bytesOf (BitVec.ofNat 16 c.tickDiv) ++ bytesOf (BitVec.ofNat 16 c.window) ++
      bytesOf (BitVec.ofNat 16 c.plainDef) ++ bytesOf (BitVec.ofNat 16 c.plainMax) ++
      [boolCode c.plainAsk, natCode c.swTimeout])
  | .view v => v.page page.toNat

/-- The window is present (R183, R184). -/
def Window.isPresent : Window → Bool
  | .absent => false
  | _ => true

/-! ### Attention and status -/

/-- The agent has a pending notice kind (R166, R182). -/
def Device.noticePending (d : Device) (a : Agent) : Bool :=
  allEntries.any fun e => (d.notice e a).pending

/-- ATTN# is asserted (R166). -/
def Device.attention (d : Device) (a : Agent) : Bool :=
  ((d.chan a).complete && (d.chan a).attnen.getLsbD 0) ||
  (d.noticePending a && (d.chan a).attnen.getLsbD 1)

/-- The channel state in STATUS (Table 63); a channel in RESET is not read. -/
def ChannelState.code : ChannelState → Byte
  | .ready => 0 | .executing => 1 | .inFlight => 2 | .reset => 0

/-- STATUS (Table 63, R182). DESIGN CHOICE (log 26): bits 5 to 7, which no rule assigns, read 0. -/
def Device.status (d : Device) (a : Agent) : Byte :=
  (d.chan a).state.code ||| bitOf (d.chan a).complete 2 ||| bitOf (d.chan a).overrun 3 |||
  bitOf (d.noticePending a) 4

/-! ### The register block (Table 63) -/

/-- PRESENT: one bit per result field present (Table 63). -/
def Results.present (r : Results) : BitVec 16 :=
  BitVec.ofBoolListLE
    [r.handle.isSome, r.priority.isSome, r.mode.isSome, r.ticket.isSome, r.term.isSome,
     r.agent.isSome, r.created.isSome, r.kinds.isSome, r.relation.isSome, r.remaining.isSome,
     r.count.isSome, r.window.isPresent, false, false, false, false]

/-- The result registers from 38h to 4Fh; an absent field reads 00h in all its bytes (R183). -/
def Channel.resultBytes (c : Channel) : List Byte :=
  let r := c.results
  [r.result.code, match c.completed with | some k => k.trigger.setWidth 8 | none => 0] ++
  bytesOf r.present ++ bytesOf (r.handle.getD 0) ++
  [match r.priority with | some p => natCode p.val | none => 0,
   match r.mode with | some m => m.code | none => 0] ++
  bytesOf (r.ticket.getD 0) ++
  bytesOf (match r.term with | some t => t.code | none => 0) ++
  [match r.agent with | some a => agentCode a | none => 0,
   match r.created with | some b => boolCode b | none => 0,
   match r.kinds with | some k => k.code | none => 0,
   match r.relation with | some x => x.code | none => 0,
   natCode (r.remaining.getD 0), natCode (r.count.getD 0), 0, 0]

/-- The 128 bytes of the register block of channel `a` (Table 63): unassigned addresses, CONTROL and the
triggers read 00h (R182). -/
def Device.registerBlock (d : Device) (a : Agent) : List Byte :=
  let c := d.chan a
  c.params.bytes ++ List.replicate 7 0 ++ c.resultBytes ++ c.results.window.bytes c.viewPage ++
  [d.status a, 0, c.attnen, c.viewPage] ++ List.replicate 28 0

/-- One byte of the register block. -/
def Device.readRegister (d : Device) (a : Agent) (addr : RegAddr) : Byte :=
  (d.registerBlock a).getD addr.toNat 0

/-- `n` bytes from `start`; the address after 7Fh is 00h (R181). -/
def Device.readBytes (d : Device) (a : Agent) : RegAddr → Nat → List Byte
  | _, 0 => []
  | addr, n + 1 => d.readRegister a addr :: d.readBytes a (addr + 1) n

/-! ### Held resets and the pins driven -/

/-- A warm reset is held: one of its causes is present (R172). -/
def State.held (s : State) : Bool :=
  s.pins.holdsReset ||
    match s.dev with
    | some d => d.cmdReset
    | none => false

/-- What a read transaction of `n` bytes from `start` answers on the link of `a`; nothing while the
retention supply is absent, a warm reset is held or the channel is RESET (R175, R181). -/
def State.linkRead (s : State) (a : Agent) (start : RegAddr) (n : Nat) : Option (List Byte) :=
  match s.dev with
  | none => none
  | some d => if s.held || (d.chan a).state == .reset then none else some (d.readBytes a start n)

/-- The level of ATTN# of agent `a`, true when high; not driven without the retention supply (R166,
R175, R185). -/
def State.attnPin (s : State) (a : Agent) : Option Bool := s.dev.map fun d => !d.attention a

/-- The outputs of a steering group (R113). -/
structure SteerPins where
  stsel : BitVec 3
  stpark : Bool
  streq : Bool
  deriving DecidableEq, Repr

/-- The outputs that a group drives from its record (R113). -/
def GroupRec.pins (x : GroupRec) : SteerPins :=
  { stsel := match x.select with | .agent a => BitVec.ofNat 3 a.val | .park => 0
    stpark := x.select == .park
    streq := x.state == .switching && match x.phase with | some (.requesting _) => true | _ => false }

/-- The steering outputs of group `g`; not driven without the retention supply (R113, R185). -/
def State.steerPins (s : State) (g : GroupIx) : Option SteerPins := s.dev.map fun d => (d.group g).pins

end Sys2Proof.Machine
end

