-- ==== Sys2Proof/Machine/Channel.lean ====
section
/-!
DEFINITION. The channel: how a write transaction reaches it, how a command starts, is judged and completes
(R159 to R165).
-/
namespace Sys2Proof.Machine

/-- An event of the device: it acts while the retention supply is present and no warm reset is held (R172,
R175); otherwise it is not taken and changes nothing. -/
def State.onLive (s : State) (f : Device → Device) : Host.Outcome State Fault Refusal :=
  match s.dev with
  | none => .next s
  | some d => if s.held then .next s else .next { s with dev := some (f d) }

/-- What a command does at the event it is taken: the device after it, and the completion, which is absent
for a REQUEST that goes IN_FLIGHT and for WARM RESET (R163, R173). -/
abbrev Take := Agent → Params → Device → Device × Option Results

/-- A command that ends with a bare result. -/
def done (d : Device) (c : ResultCode) : Device × Option Results := (d, some { result := c })

/-- The control commands (Table 4, Table 50). -/
def isControlCommand : Cmd → Bool
  | .define | .amend | .forceRelease | .fence | .unfence | .setAgent | .configure | .clearFault
  | .warmReset => true
  | _ => false

/-- The attach check (R162): the result that ends the command, or `none` where it passes. -/
def attachCheck (c : Cmd) : Roster → Option ResultCode
  | .online => none
  | .fenced => some .notPermitted
  | .offline | .rejoining =>
    match c with
    | .attach | .rejoin | .takeNotice => none
    | _ => some .notAttached

/-- The start of a command: its name and the parameters it reads are latched, COMPLETE and OVERRUN are
cleared, the channel is EXECUTING (R160). -/
def Channel.start (c : Channel) (cmd : Cmd) : Channel :=
  { c with state := .executing, latched := some ⟨cmd, c.params.latch cmd⟩, complete := false, overrun := false }

/-- A dropped trigger sets OVERRUN (R161). -/
def Device.setOverrun (d : Device) (ch : Agent) : Device :=
  d.setChan ch { d.chan ch with overrun := true }

/-- The checks that every command passes first, and then its own rule (R148, R162): the attach check, for a
control command the check for the control holder, then `take`. -/
def Device.judge (d : Device) (ch : Agent) (cmd : Cmd) (take : Take) : Device × Option Results :=
  match attachCheck cmd (d.agent ch).state with
  | some c => done d c
  | none =>
    if isControlCommand cmd ∧ d.controlHolder ≠ some ch then done d .notPermitted
    else take ch ((d.chan ch).params.latch cmd) d

/-- The completion of a command, where it completes at this event (R163). -/
def writeBack (ch : Agent) (cmd : Cmd) (x : Device × Option Results) : Device :=
  match x.2 with
  | some r => x.1.finish ch cmd r
  | none => x.1

/-- A command started on a READY channel, taken by its owner and completed (R160, R163). -/
def Device.runCommand (d : Device) (ch : Agent) (cmd : Cmd) (take : Take) : Device :=
  writeBack ch cmd ((d.setChan ch ((d.chan ch).start cmd)).judge ch cmd take)

/-- The registers of a transaction written: parameter registers, ATTNEN and VIEWPAGE (R159, R182). -/
def Channel.writeRegisters (c : Channel) (w : Writes) : Channel :=
  { c with
    params := c.params.writeAll w
    attnen := (lastWrite w attnenAddr).getD c.attnen
    viewPage := (lastWrite w viewpageAddr).getD c.viewPage }

/-- ACK: clears COMPLETE on a READY channel (R164). -/
def Device.ack (d : Device) (ch : Agent) : Device :=
  if (d.chan ch).state = .ready then d.setChan ch { d.chan ch with complete := false } else d

/-- ABORT: an IN_FLIGHT REQUEST completes ABORTED with its clamped priority, its cell is removed and the
switch goes on (R165). -/
def Device.abort (d : Device) (ch : Agent) : Device :=
  if (d.chan ch).state = .inFlight then
    match (d.chan ch).latched with
    | none => d
    | some l =>
      match d.lookup l.params.handle with
      | .error _ => d
      | .ok (e, r) =>
        ((d.finish ch .request
          { result := .aborted, priority := (r.cell ch).map (·.priority) }).removeCell e ch).handOn e
  else d

/-- What a transaction does before its trigger is judged: the registers, then ABORT, then ACK (R160). -/
def Device.applyWrites (d : Device) (ch : Agent) (w : Writes) : Device :=
  let d := d.setChan ch ((d.chan ch).writeRegisters w)
  let d := if writesAbort w then d.abort ch else d
  if writesAck w then d.ack ch else d

/-- A transaction with two or more triggers: on a READY channel it completes BAD_PARAM with no command, on
a busy one the triggers are dropped with OVERRUN set (R160). -/
def Device.manyTriggers (d : Device) (ch : Agent) : Device :=
  if (d.chan ch).state = .ready then
    d.setChan ch { (d.chan ch).finish none { result := .badParam } with overrun := false }
  else d.setOverrun ch

/-- One trigger judged against the channel state (R160, R161). -/
def Device.trigger (d : Device) (ch : Agent) (cmd : Cmd) (take : Take) : Device :=
  if (d.chan ch).state = .ready then d.runCommand ch cmd take else d.setOverrun ch

/-- A write transaction that writes the trigger of `cmd` beside the bytes `w`. A channel in RESET ignores it
whole; another command's trigger among `w` makes it a transaction of several triggers (R160, R161). -/
def commandWrite (cmd : Cmd) (take : Take) (ch : Agent) (w : Writes) (d : Device) : Device :=
  if (d.chan ch).state = .reset then d
  else if (triggersIn w).all (· = cmd) then (d.applyWrites ch w).trigger ch cmd take
  else (d.applyWrites ch w).manyTriggers ch

end Sys2Proof.Machine
end

