-- ==== Sys2Proof/Machine/Control.lean ====
section
/-!
DEFINITION. Chapters 7, 9 and 10: CONFIGURE, CLEAR FAULT and TAKE NOTICE.
-/
namespace Sys2Proof.Machine

/-- CONFIGURE (R157, R158): all six values or none; the window gives the values in force afterwards. -/
def takeConfigure : Take := fun _ p d =>
  match configParams p with
  | none => (d, some { result := .badParam, window := .values d.config })
  | some c => ({ d with config := c }, some { result := .ok, window := .values c })

/-- The fault of group `g` cleared, and its entry handed on (R125). -/
def Device.clearGroupFault (d : Device) (g : GroupIx) : Device :=
  let x := d.group g
  let d := d.setGroup g { x with state := .settled, settleKnown := false }
  match x.binding with
  | none => d
  | some b => (d.modifyEntry b.entry fun r => { r with occupancy := .idle }).handOn b.entry

/-- CLEAR FAULT (R125). -/
def takeClearFault : Take := fun _ p d =>
  match groupOf p.group with
  | none => done d .badParam
  | some g =>
    if (d.group g).state = .faulted then done (d.clearGroupFault g) .ok else done d .wrongState

/-- The agent's lowest pending notice cell (R169). -/
def Device.firstNotice (d : Device) (a : Agent) : Option EntryIx :=
  allEntries.find? fun e => (d.notice e a).pending

/-- The number of the agent's cells with a pending kind (R169). -/
def Device.pendingCells (d : Device) (a : Agent) : Nat :=
  allEntries.countP fun e => (d.notice e a).pending

/-- The agent's relation to the record in a slot, when that record has the generation given (R169). -/
def Device.relation (d : Device) (e : EntryIx) (a : Agent) (g : Generation) : Relation :=
  match d.entry e with
  | none => .none
  | some r =>
    if (d.slot e).generation = g then
      match r.holder a with
      | some h => if h.mode = .exclusive then .exclusiveHolder else .sharedHolder
      | none => if r.waitedBy a then .waiting else .none
    else .none

/-- TAKE NOTICE (R169). -/
def takeTakeNotice : Take := fun a _ d =>
  match d.firstNotice a with
  | none => (d, some { result := .noNotice, remaining := some 0 })
  | some e =>
    let c := d.notice e a
    let g := c.generation.getD 0
    let d' := d.setNotice e a {}
    (d', some { result := .ok, handle := some (handleOf e g), kinds := some c.kinds
                relation := some (d.relation e a g), remaining := some (d'.pendingCells a) })

/-- CONFIGURE (R157). -/
def execConfigure (ch : Agent) (w : Writes) (s : State) : Host.Outcome State Fault Refusal :=
  s.onLive (commandWrite .configure takeConfigure ch w)

/-- CLEAR FAULT (R125). -/
def execClearFault (ch : Agent) (w : Writes) (s : State) : Host.Outcome State Fault Refusal :=
  s.onLive (commandWrite .clearFault takeClearFault ch w)

/-- TAKE NOTICE (R169). -/
def execTakeNotice (ch : Agent) (w : Writes) (s : State) : Host.Outcome State Fault Refusal :=
  s.onLive (commandWrite .takeNotice takeTakeNotice ch w)

end Sys2Proof.Machine
end

