-- ==== Sys2Proof/Machine/Leases.lean ====
section
/-!
DEFINITION. Chapters 2 to 4 and 7: REQUEST with its outcomes, RELEASE, RENEW, DOWNGRADE, CANCEL and CHECK.
-/
namespace Sys2Proof.Machine

/-! ### REQUEST -/

/-- The refusals of REQUEST in the order of Table 17 (R28), and then the hold quota (R29). -/
def requestRefusal (d : Device) (a : Agent) (r : Record) (m : WaitMode) : Option ResultCode :=
  if r.isRetiring then some .retiring
  else if m ≠ .exclusive ∧ r.sharing = .exclusiveOnly then some .modeConflict
  else if r.heldBy a ∧ ¬ (m = .upgrade ∧ (r.holder a).map (·.mode) = some .shared) then some .alreadyHeld
  else if m = .upgrade ∧ r.heldBy a = false then some .notHolder
  else if r.waitedBy a then some .alreadyWaiting
  else if m = .upgrade ∧ r.queue.any (fun c => c.mode = .upgrade) then some .upgradeConflict
  else if m ≠ .upgrade ∧ d.belowHoldQuota a = false then some .holdQuota
  else none

/-- A REQUEST that has passed its checks: the clamped priority (R30), the mode, the requested term and the
wait limit. -/
structure Claim where
  agent : Agent
  mode : WaitMode
  priority : Priority
  term : Term
  waitLimit : Nat
  deriving DecidableEq, Repr

/-- The choice of outcome (R31). -/
inductive ClaimOutcome where
  | grant (m : GrantMode)
  | inFlight (g : GroupIx)
  | convert
  | wait
  deriving DecidableEq, Repr

/-- The outcome of a claim on an entry, chosen from the state of the entry (R31). -/
def claimOutcome (d : Device) (r : Record) (c : Claim) : ClaimOutcome :=
  match c.mode with
  | .exclusive =>
    if r.occupancy = .idle ∧ r.queue = [] then
      match r.group with
      | none => .grant .exclusive
      | some g => if (d.group g).connects c.agent then .grant .exclusive else .inFlight g
    else .wait
  | .shared =>
    if (r.occupancy = .idle ∨ r.occupancy = .heldS) ∧ r.queue = [] then .grant .shared else .wait
  | .upgrade => if r.holders.map (·.agent) = [c.agent] then .convert else .wait

/-- The result fields of a granted REQUEST (Table 16). -/
def grantedResults (prio : Priority) (ticket : Ticket) (mode : GrantMode) (term : Term) : Results :=
  { result := .granted, priority := some prio, ticket := some ticket, mode := some mode, term := some term }

/-- A completion with the clamped priority and nothing more (Table 16). -/
def withPriority (d : Device) (c : Claim) (code : ResultCode) : Device × Option Results :=
  (d, some { result := code, priority := some c.priority })

/-- The refusals on the way into a queue (R63): the wait quota, then the pool. -/
def waitRefusal (d : Device) (a : Agent) : Option ResultCode :=
  if d.waitCount a ≥ (d.agent a).waitQuota then some .waitQuota
  else if d.cellsInUse ≥ Config.poolSize then some .queueFull
  else none

/-- The wait deadline that a wait limit gives: 65535 waits without limit (R59, R63). -/
def deadlineOf (limit : Nat) : Option Nat := if limit = 65535 then none else some limit

/-- The cell of a queued claim (R63). -/
def Claim.cell (c : Claim) : WaitCell :=
  { agent := c.agent, mode := c.mode, priority := c.priority, term := c.term
    deadline := deadlineOf c.waitLimit, target := false }

/-- The cell of a claim that goes IN_FLIGHT: no deadline, the switch-target flag set (R121). -/
def Claim.targetCell (c : Claim) : WaitCell :=
  { agent := c.agent, mode := .exclusive, priority := c.priority, term := c.term
    deadline := none, target := true }

/-- A cell inserted in the queue of entry `e` (R61). -/
def Device.enqueue (d : Device) (e : EntryIx) (c : WaitCell) : Device :=
  d.modifyEntry e fun r => { r with queue := insertCell c r.queue }

/-- The IN_FLIGHT path: the cell is made, the switch starts, the channel is IN_FLIGHT (R121). -/
def takeInFlight (d : Device) (e : EntryIx) (g : GroupIx) (c : Claim) : Device × Option Results :=
  match waitRefusal d c.agent with
  | some code => withPriority d c code
  | none =>
    let d := ((d.enqueue e c.targetCell).startSwitch e g (.agent c.agent)).evaluate e
    (d.setChan c.agent { d.chan c.agent with state := .inFlight }, none)

/-- The waiting path: UNAVAILABLE with a wait limit of 0 (R35), otherwise queued (R63). -/
def takeWait (d : Device) (e : EntryIx) (c : Claim) : Device × Option Results :=
  if c.waitLimit = 0 then withPriority d c .unavailable
  else
    match waitRefusal d c.agent with
    | some code => withPriority d c code
    | none => withPriority ((d.enqueue e c.cell).handOn e) c .queued

/-- A claim decided (R31 to R35, R63, R121). -/
def decideClaim (d : Device) (e : EntryIx) (r : Record) (c : Claim) : Device × Option Results :=
  match claimOutcome d r c with
  | .grant m =>
    (d.newGrant e c.agent m c.priority (r.grantedTerm c.term),
     some (grantedResults c.priority d.ticket m (r.grantedTerm c.term)))
  | .convert =>
    ((d.convertHolder e c.agent c.priority c.term).evaluate e,
     some (grantedResults c.priority d.ticket .exclusive (r.grantedTerm c.term)))
  | .inFlight g => takeInFlight d e g c
  | .wait => takeWait d e c

/-- REQUEST (R27 to R35, R63, R121). -/
def takeRequest : Take := fun a p d =>
  match d.lookup p.handle with
  | .error c => done d c
  | .ok (e, r) =>
    match requestMode p.mode, priorityOf p.prio, requestedTerm p.term with
    | some m, some prio, some t =>
      match requestRefusal d a r m with
      | some c => done d c
      | none =>
        decideClaim d e r
          { agent := a, mode := m, priority := min prio (d.agent a).cap, term := t
            waitLimit := p.waitlim.toNat }
    | _, _, _ => done d .badParam

/-! ### RELEASE, RENEW, DOWNGRADE, CANCEL, CHECK -/

/-- RELEASE (R36, R37). The handle is checked first, so a RELEASE after an IMMEDIATE RETIRE that drained the entry ends
STALE_HANDLE (R8, R110). DEDUCED (log 24): R111 says NOT_HOLDER there. -/
def takeRelease : Take := fun a p d =>
  match d.lookup p.handle with
  | .error c => done d c
  | .ok (e, r) => if r.heldBy a then done ((d.endGrant e a).handOn e) .ok else done d .notHolder

/-- The holder record of agent `a` changed by `f`. -/
def Device.modifyHolder (d : Device) (e : EntryIx) (a : Agent) (f : Holder → Holder) : Device :=
  d.modifyEntry e fun r =>
    { r with holders := r.holders.map fun h => if h.agent = a then f h else h }

/-- RENEW (R53, R54). -/
def takeRenew : Take := fun a p d =>
  match d.lookup p.handle with
  | .error c => done d c
  | .ok (e, r) =>
    match requestedTerm p.term with
    | none => done d .badParam
    | some t =>
      if r.heldBy a then
        (d.modifyHolder e a fun h => { h with remaining := r.grantedTerm t },
         some { result := .ok, term := some (r.grantedTerm t) })
      else done d .notHolder

/-- DOWNGRADE (R39, R40). -/
def takeDowngrade : Take := fun a p d =>
  match d.lookup p.handle with
  | .error c => done d c
  | .ok (e, r) =>
    match r.holder a with
    | none => done d .notHolder
    | some h =>
      if r.sharing = .exclusiveOnly then done d .modeConflict
      else if h.mode = .shared then done d .wrongState
      else
        let d := d.modifyHolder e a fun h => { h with mode := .shared }
        done ((d.modifyEntry e fun r => { r with occupancy := .heldS }).handOn e) .ok

/-- CANCEL (R67). -/
def takeCancel : Take := fun a p d =>
  match d.lookup p.handle with
  | .error c => done d c
  | .ok (e, r) => if r.waitedBy a then done ((d.removeCell e a).handOn e) .ok else done d .notWaiting

/-- CHECK (R41): a ticket of 0 is always STALE. DESIGN CHOICE (log 23): where two holder records of the entry carry the
ticket, which the wrap of the counter allows, the one granted first is named. -/
def takeCheck : Take := fun _ p d =>
  match d.lookup p.handle with
  | .error c => done d c
  | .ok (_, r) =>
    if p.ticket = 0 then done d .stale
    else
      match r.holders.find? fun h => h.ticket = p.ticket with
      | none => done d .stale
      | some h => (d, some { result := .current, agent := some h.agent, mode := some h.mode })

/-! ### The commands -/

/-- REQUEST (R27 to R35). -/
def execRequest (ch : Agent) (w : Writes) (s : State) : Host.Outcome State Fault Refusal :=
  s.onLive (commandWrite .request takeRequest ch w)

/-- RELEASE (R36, R37). -/
def execRelease (ch : Agent) (w : Writes) (s : State) : Host.Outcome State Fault Refusal :=
  s.onLive (commandWrite .release takeRelease ch w)

/-- RENEW (R53 to R55). -/
def execRenew (ch : Agent) (w : Writes) (s : State) : Host.Outcome State Fault Refusal :=
  s.onLive (commandWrite .renew takeRenew ch w)

/-- DOWNGRADE (R39, R40). -/
def execDowngrade (ch : Agent) (w : Writes) (s : State) : Host.Outcome State Fault Refusal :=
  s.onLive (commandWrite .downgrade takeDowngrade ch w)

/-- CANCEL (R67). -/
def execCancel (ch : Agent) (w : Writes) (s : State) : Host.Outcome State Fault Refusal :=
  s.onLive (commandWrite .cancel takeCancel ch w)

/-- CHECK (R41). -/
def execCheck (ch : Agent) (w : Writes) (s : State) : Host.Outcome State Fault Refusal :=
  s.onLive (commandWrite .check takeCheck ch w)

end Sys2Proof.Machine
end

