-- ==== Sys2Proof/Machine/Records.lean ====
section
/-!
DEFINITION. Chapter 1: OPEN, QUERY, DEFINE and AMEND, with the binding of steering groups (R115).
-/
namespace Sys2Proof.Machine

/-! ### Creation and OPEN -/

/-- A record created in a FREE slot: it takes the slot's generation, and every notice cell of the slot is
cleared (R9). -/
def Device.createRecord (d : Device) (e : EntryIx) (r : Record) : Device :=
  (d.setSlot e { d.slot e with record := some r }).clearSlotNotices e

/-- A PLAIN record made by OPEN, from the PLAIN defaults (R11). -/
def Device.plainRecord (d : Device) (creator : Agent) (key : Key) (sharing : SharingClass) : Record :=
  { key, origin := .plain creator, sharing
    policy := if d.config.plainAsk then .ask else .none
    defaultTerm := .ms (min d.config.plainDef d.config.plainMax)
    maxTerm := .ms d.config.plainMax
    unboundedAllowed := false, group := none, lifecycle := .live, occupancy := .idle
    holders := [], queue := [] }

/-- A refusal of OPEN: no handle, created no (Table 10). -/
def openRefused (d : Device) (c : ResultCode) : Device × Option Results :=
  (d, some { result := c, created := some false })

/-- OPEN (R10, R11, Table 10). -/
def takeOpen : Take := fun a p d =>
  let create := p.options.getLsbD 0
  if create && (sharingOf p.sharing).isNone then openRefused d .badParam
  else
    match d.findKey p.key with
    | some (e, r) =>
      if r.isRetiring then openRefused d .retiring
      else (d, some { result := .ok, handle := some (d.handleFor e), created := some false })
    | none =>
      if !create then openRefused d .noEntry
      else if !(d.agent a).create then openRefused d .notPermitted
      else
        match d.freeSlot, sharingOf p.sharing with
        | some e, some sharing =>
          (d.createRecord e (d.plainRecord a p.key sharing),
           some { result := .ok, handle := some (d.handleFor e), created := some true })
        | _, _ => openRefused d .tableFull

/-! ### QUERY -/

/-- The view of a holder record (R19). -/
def Holder.view (h : Holder) : HolderView :=
  { agent := h.agent, mode := h.mode, ticket := h.ticket, priority := h.priority
    remaining := h.remaining, asked := h.asked }

/-- The QUERY view of a record, with the holders in ascending agent number (Table 12, R18, R19). -/
def Record.view (r : Record) (h : Handle) : QueryView :=
  { handle := h, key := r.key, origin := r.origin, lifecycle := r.lifecycle, occupancy := r.occupancy
    sharing := r.sharing, policy := r.policy, defaultTerm := r.defaultTerm, maxTerm := r.maxTerm
    unboundedAllowed := r.unboundedAllowed, group := r.group
    holders := allAgents.filterMap fun a => (r.holder a).map Holder.view
    queueLength := r.queue.length
    queueHead := r.queue.head?.map fun c => (c.agent, c.mode) }

/-- QUERY (R18, R19, R184). -/
def takeQuery : Take := fun _ p d =>
  match d.lookup p.handle with
  | .error c => done d c
  | .ok (_, r) =>
    (d, some { result := .ok, handle := some p.handle, window := .view (r.view p.handle) })

/-! ### Binding -/

/-- A switch to home starts where one is due on the group of an idle entry (R115). -/
def Device.returnHome (d : Device) (e : EntryIx) (g : GroupIx) : Device :=
  if (d.group g).homeDue then d.startSwitch e g .home else d

/-- The binding that a command gives; a switch timeout of 0 is the device default (R115). -/
def Device.bindingOf (d : Device) (e : EntryIx) (q : SteerParams) : Binding :=
  { entry := e, home := q.home, parkPolicy := q.parkPolicy
    timeout := if q.timeout = 0 then d.config.swTimeout else q.timeout }

/-- A group bound to an entry: SETTLED, select unchanged, settle known no, and a switch to home where one is
due (R115). -/
def Device.bindGroup (d : Device) (e : EntryIx) (q : SteerParams) : Device :=
  let x := d.group q.group
  (d.setGroup q.group
    { x with state := .settled, binding := some (d.bindingOf e q), settleKnown := false, phase := none }).returnHome
    e q.group

/-- The entry's present group named again: new home, park policy and switch timeout, and a switch to home
where one is due (R15, R115). -/
def Device.rebindGroup (d : Device) (e : EntryIx) (q : SteerParams) : Device :=
  (d.setGroup q.group { d.group q.group with binding := some (d.bindingOf e q) }).returnHome e q.group

/-- The named group is bound to an entry other than `e` (R13, R14). -/
def Device.groupTaken (d : Device) (e : EntryIx) : Option SteerParams → Bool
  | none => false
  | some q =>
    match (d.group q.group).binding with
    | none => false
    | some b => b.entry != e

/-- The named group is bound (R13). -/
def Device.groupBound (d : Device) : Option SteerParams → Bool
  | none => false
  | some q => (d.group q.group).binding.isSome

/-! ### DEFINE -/

/-- A DEFINED record with the given parameters and no creator (R13). -/
def RecordParams.record (q : RecordParams) (key : Key) : Record :=
  { key, origin := .defined, sharing := q.sharing, policy := q.policy, defaultTerm := q.defaultTerm
    maxTerm := q.maxTerm, unboundedAllowed := q.unboundedAllowed, group := q.steer.map (·.group)
    lifecycle := .live, occupancy := .idle, holders := [], queue := [] }

/-- The group named by a command, if any, bound to entry `e` (R13). -/
def Device.bindNamed (d : Device) (e : EntryIx) : Option SteerParams → Device
  | none => d
  | some q => d.bindGroup e q

/-- DEFINE (R12, R13). -/
def takeDefine : Take := fun _ p d =>
  match recordParams p with
  | none => done d .badParam
  | some q =>
    match d.findKey p.key with
    | some (_, r) => done d (if r.isRetiring then .retiring else .alreadyExists)
    | none =>
      if d.groupBound q.steer then done d .inUse
      else
        match d.freeSlot with
        | none => done d .tableFull
        | some e =>
          ((d.createRecord e (q.record p.key)).bindNamed e q.steer,
           some { result := .ok, handle := some (d.handleFor e) })

/-! ### AMEND -/

/-- The yield state of an asked holder when the policy of entry 0 is amended (R90). -/
def Holder.afterAmend (old new : YieldPolicy) (h : Holder) : Holder :=
  if h.asked then
    match old, new with
    | .force _, .force _ => h
    | _, .force g => { h with grace := some g }
    | _, _ => { h with grace := none }
  else h

/-- AMEND of entry 0: the yield policy and grace alone, then the evaluation under them (R16, R90). -/
def amendControl (p : Params) (d : Device) : Device × Option Results :=
  match policyOf p.policy p.grace with
  | none | some .none => done d .badParam
  | some y =>
    done ((d.modifyEntry 0 fun r =>
        { r with policy := y, holders := r.holders.map (Holder.afterAmend r.policy y) }).evaluate 0) .ok

/-- The parameters of an AMEND written into the record (R15). -/
def RecordParams.amend (q : RecordParams) (r : Record) : Record :=
  { r with
    sharing := q.sharing, policy := q.policy, defaultTerm := q.defaultTerm, maxTerm := q.maxTerm
    unboundedAllowed := q.unboundedAllowed, group := q.steer.map (·.group) }

/-- The steering group handled as the AMEND names it (R15). -/
def Device.amendGroup (d : Device) (e : EntryIx) (old : Option GroupIx) : Option SteerParams → Device
  | none => d.unbindGroup old
  | some q => if old = some q.group then d.rebindGroup e q else (d.unbindGroup old).bindGroup e q

/-- AMEND (R14 to R16, R90). -/
def takeAmend : Take := fun _ p d =>
  match d.lookup p.handle with
  | .error c => done d c
  | .ok (e, r) =>
    if e = 0 then amendControl p d
    else
      match recordParams p with
      | none => done d .badParam
      | some q =>
        if r.origin ≠ .defined && q.unboundedAllowed then done d .badParam
        else if r.isRetiring then done d .retiring
        else if r.occupancy ≠ .idle ∨ r.queue ≠ [] then done d .entryBusy
        else if d.groupTaken e q.steer then done d .inUse
        else done ((d.modifyEntry e q.amend).amendGroup e r.group q.steer) .ok

/-! ### The commands -/

/-- OPEN (R10). -/
def execOpenEntry (ch : Agent) (w : Writes) (s : State) : Host.Outcome State Fault Refusal :=
  s.onLive (commandWrite .openEntry takeOpen ch w)

/-- QUERY (R18). -/
def execQuery (ch : Agent) (w : Writes) (s : State) : Host.Outcome State Fault Refusal :=
  s.onLive (commandWrite .query takeQuery ch w)

/-- DEFINE (R12, R13). -/
def execDefine (ch : Agent) (w : Writes) (s : State) : Host.Outcome State Fault Refusal :=
  s.onLive (commandWrite .define takeDefine ch w)

/-- AMEND (R14 to R17). -/
def execAmend (ch : Agent) (w : Writes) (s : State) : Host.Outcome State Fault Refusal :=
  s.onLive (commandWrite .amend takeAmend ch w)

end Sys2Proof.Machine
end

