-- ==== Sys2Proof/Machine/Resets.lean ====
section
/-!
DEFINITION. Chapters 8 and 11: the agent-reset inputs, the beginning and the release of a warm reset, the
WARM RESET command, the cold reset and the loss of the retention supply.
-/
namespace Sys2Proof.Machine

/-! ### The agent-reset inputs -/

/-- A fall of AGRST# taken: the channel goes to RESET with the values of R171, and an ONLINE or REJOINING
agent departs to OFFLINE (R140). -/
def Device.agentReset (d : Device) (a : Agent) : Device :=
  let d := d.setChan a .inReset
  match (d.agent a).state with
  | .online | .rejoining => d.depart [a] .offline
  | .offline | .fenced => d

/-- A rise of AGRST# taken: the channel leaves RESET for READY with result NONE (R141). -/
def Device.agentUnreset (d : Device) (a : Agent) : Device :=
  d.setChan a { (Channel.inReset) with state := .ready }

/-- AGRST# of agent `a` falls (R140); no edge where it is low already. -/
def execAgrstFall (a : Agent) (s : State) : Host.Outcome State Fault Refusal :=
  if tget s.pins.agrstLow a then .next s
  else
    { s with pins := { s.pins with agrstLow := tset s.pins.agrstLow a true } : State }.onLive
      fun d => d.agentReset a

/-- AGRST# of agent `a` rises (R141); no edge where it is high already. -/
def execAgrstRise (a : Agent) (s : State) : Host.Outcome State Fault Refusal :=
  if tget s.pins.agrstLow a then
    { s with pins := { s.pins with agrstLow := tset s.pins.agrstLow a false } : State }.onLive
      fun d => d.agentUnreset a
  else .next s

/-! ### The beginning of a warm reset -/

/-- A resource record at the beginning of a warm reset (R21, R58, R82): the queue is emptied, every flag
cleared and every grace discarded, and a SWITCHING entry becomes IDLE. -/
def Record.warm (r : Record) : Record :=
  { r with
    queue := []
    holders := r.holders.map fun h => { h with asked := false, grace := none }
    occupancy := match r.occupancy with | .switching _ => .idle | o => o }

/-- A group at the beginning of a warm reset: a switch in flight is abandoned (R130). -/
def GroupRec.warm (x : GroupRec) : GroupRec :=
  if x.state = .switching then { x with state := .settled, settleKnown := false, phase := none }
  else { x with phase := none }

/-- The beginning of a warm reset: the roster states are recorded and the core domain is cleared (R174,
Table 60). -/
def Device.warmBegin (d : Device) : Device :=
  { d with
    slots := tabulate fun e => { d.slot e with record := (d.slot e).record.map Record.warm }
    notices := Vector.replicate 128 (Vector.replicate 8 {})
    groups := tabulate fun g => (d.group g).warm
    channels := Vector.replicate 8 .inReset
    tickPhase := 0
    issued := []
    recorded := some (tabulate fun a => (d.agent a).state)
    reclaimLeft := none }

/-! ### The release of a warm reset -/

/-- The roster state recorded for an agent at the beginning (R174). -/
def Device.recordedState (d : Device) (a : Agent) : Roster :=
  match d.recorded with
  | some v => tget v a
  | none => (d.agent a).state

/-- The agent comes out of the reset with grants to reclaim: REJOINING under a reclaim window greater than
0, departing under a window of 0 (R176). -/
def Device.reclaims (d : Device) (a : Agent) : Bool :=
  match d.recordedState a with
  | .online => decide (1 ≤ d.holdCount a)
  | .rejoining => true
  | .offline | .fenced => false

/-- The state of an agent at the release, before any departure of the release (R176). -/
def Device.releasedState (d : Device) (a : Agent) : Roster :=
  if d.recordedState a = .fenced then .fenced
  else if d.reclaims a then .rejoining
  else .offline

/-- The agents that depart at the release: all that would be REJOINING under a window of 0, and those whose
AGRST# is low (R140, R176). -/
def Device.departsAtRelease (d : Device) (p : Pins) (a : Agent) : Bool :=
  d.reclaims a && (d.config.window = 0 || tget p.agrstLow a)

/-- A channel at the release: READY with result NONE where AGRST# is high (R171, R176). -/
def releasedChannel (agrstLow : Bool) : Channel :=
  if agrstLow then .inReset else { state := .ready }

/-- The holder records whose remaining term is 0 (R56). -/
def Device.expiredHolders (d : Device) : List Expiry :=
  allEntries.flatMap fun e =>
    match d.entry e with
    | none => []
    | some r =>
      r.holders.filterMap fun h =>
        if h.remaining = .ms 0 then some (.term e h.agent h.ticket) else none

/-- The roster, the channels, the groups and the timer at the release of a warm reset, before departures
and drains (R43, R130, R171, R176). -/
def Device.leaveReset (d : Device) (p : Pins) : Device :=
  { d with
    agents := tabulate fun a => { d.agent a with state := d.releasedState a }
    channels := tabulate fun a => releasedChannel (tget p.agrstLow a)
    groups := tabulate fun g => { d.group g with stdone := tget p.stdoneHigh g }
    tickPhase := 0
    tickPeriod := d.config.tickDiv
    recorded := none
    reclaimLeft :=
      if d.config.window ≠ 0 ∧ allAgents.any (fun a => d.reclaims a) then some d.config.window else none }

/-- The release of a warm reset with `p` on the inputs (R176): roster states, channels, the reclaim window,
the departures of the release, the drains it completes, and the expiries issued again (R56). DEDUCED (log 25): the grant
decision runs on the LIVE entries that those departures release, steered ones included (R139, R176), and on no other (R130). -/
def Device.warmRelease (d : Device) (p : Pins) : Device :=
  let gone := allAgents.filter fun a => d.departsAtRelease p a
  let d := (d.leaveReset p).depart gone .offline
  let d := allEntries.foldl Device.checkDrain d
  { d with issued := d.issued ++ d.expiredHolders }

/-! ### The events -/

/-- The level of a cause on the board: nRESET low, or the core supply absent (R172). -/
def Pins.cause (p : Pins) : PinCause → Bool
  | .nreset => p.nresetLow
  | .coreSupply => p.coreAbsent

/-- The level of a cause set. -/
def Pins.setCause (p : Pins) (c : PinCause) (v : Bool) : Pins :=
  match c with
  | .nreset => { p with nresetLow := v }
  | .coreSupply => { p with coreAbsent := v }

/-- A cause of a warm reset arises on the board. The reset begins where none was present; otherwise the hold
is extended (R172, R174). -/
def execWarmResetBegin (c : PinCause) (s : State) : Host.Outcome State Fault Refusal :=
  if s.pins.cause c then .next s
  else
    .next { s with
      pins := s.pins.setCause c true
      dev := if s.held then s.dev else s.dev.map Device.warmBegin }

/-- A state in which a cause has just ended: the release acts where it was the last one (R172, R176). -/
def State.afterCause (s : State) : State :=
  if s.held then s else { s with dev := s.dev.map fun d => d.warmRelease s.pins }

/-- A cause of a warm reset ends (R172, R173, R176); nothing happens where the cause was not present. -/
def execWarmResetRelease (c : ResetCause) (s : State) : Host.Outcome State Fault Refusal :=
  match c with
  | .pin k =>
    if s.pins.cause k then .next { s with pins := s.pins.setCause k false : State }.afterCause
    else .next s
  | .command =>
    match s.dev with
    | none => .next s
    | some d =>
      if d.cmdReset then .next { s with dev := some { d with cmdReset := false } : State }.afterCause
      else .next s

/-- WARM RESET begins a warm reset with the command as its cause and writes no completion (R173). -/
def takeWarmReset : Take := fun _ _ d => ({ d.warmBegin with cmdReset := true }, none)

/-- WARM RESET (R173). -/
def execWarmReset (ch : Agent) (w : Writes) (s : State) : Host.Outcome State Fault Refusal :=
  s.onLive (commandWrite .warmReset takeWarmReset ch w)

/-- Power-on of the retention supply: the cold reset sets every piece of state, with the levels now on the
inputs (R172, and the rules cited at `Device.cold`). BOOTSEL[2:0] names the boot agent (R132). -/
def execColdReset (bootsel : BitVec 3) (s : State) : Host.Outcome State Fault Refusal :=
  .next { s with dev := some (.cold bootsel.toFin s.pins) }

/-- Loss of the retention supply: the retention domain is lost, and nothing but the next power-on of that
supply, a cold reset, brings the device back (R172). -/
def execRetentionSupplyLoss (s : State) : Host.Outcome State Fault Refusal :=
  .next { s with dev := none }

end Sys2Proof.Machine
end

