-- ==== Sys2Proof/Machine/Revocation.lean ====
section
/-!
DEFINITION. Chapters 5 and 6: FORCE RELEASE and RETIRE.
-/
namespace Sys2Proof.Machine

/-- FORCE RELEASE (R95, R96). -/
def takeForceRelease : Take := fun a p d =>
  match d.lookup p.handle with
  | .error c => done d c
  | .ok (e, r) =>
    match agentOf p.agent with
    | none => done d .badParam
    | some x =>
      if x = a then done d .notPermitted
      else
        match r.holder x with
        | none => done d .notHolder
        | some h =>
          (d.revoke e x, some { result := .ok, ticket := some h.ticket, mode := some h.mode })

/-- RETIRE in this mode is permitted to the agent: DRAIN to the control holder and to the creator of a PLAIN
entry, IMMEDIATE to the control holder (R100). -/
def Device.mayRetire (d : Device) (a : Agent) (r : Record) : RetireMode → Bool
  | .immediate => d.controlHolder == some a
  | .drain => d.controlHolder == some a || r.origin == .plain a

/-- Steps 1 and 2 of a RETIRE: the lifecycle, and the end of every wait (R101). -/
def Device.retireQueue (d : Device) (e : EntryIx) (r : Record) (a : Agent) (m : RetireMode) : Device :=
  let d := d.modifyEntry e fun r => { r with lifecycle := .retiring a m }
  let d := r.queue.foldl (fun d c => d.tellWaiter e c .retiring .retiring) d
  d.modifyEntry e fun r => { r with queue := [] }

/-- Steps 3 and 4 of a RETIRE: RETIRING to every holder, and in IMMEDIATE mode their revocation (R101,
R102). -/
def Device.retireHolders (d : Device) (e : EntryIx) (r : Record) (m : RetireMode) : Device :=
  let d := r.holders.foldl (fun d h => d.post e h.agent .retiring) d
  match m with
  | .drain => d
  | .immediate => r.holders.foldl (fun d h => (d.endGrant e h.agent).post e h.agent .revoked) d

/-- RETIRE (R100 to R102). -/
def takeRetire : Take := fun a p d =>
  match d.lookup p.handle with
  | .error c => done d c
  | .ok (e, r) =>
    match retireModeOf p.mode with
    | none => done d .badParam
    | some m =>
      if e = 0 then done d .notPermitted
      else if d.mayRetire a r m = false then done d .notPermitted
      else if r.isRetiring then done d .wrongState
      else done ((((d.retireQueue e r a m).retireHolders e r m).evaluate e).checkDrain e) .ok

/-- FORCE RELEASE (R95, R96). -/
def execForceRelease (ch : Agent) (w : Writes) (s : State) : Host.Outcome State Fault Refusal :=
  s.onLive (commandWrite .forceRelease takeForceRelease ch w)

/-- RETIRE (R100 to R102). -/
def execRetire (ch : Agent) (w : Writes) (s : State) : Host.Outcome State Fault Refusal :=
  s.onLive (commandWrite .retire takeRetire ch w)

end Sys2Proof.Machine
end

