-- ==== Sys2Proof/Machine/Roster.lean ====
section
/-!
DEFINITION. Chapters 8 and 11: ATTACH, DETACH, REJOIN, FENCE, UNFENCE and SET AGENT.
-/
namespace Sys2Proof.Machine

/-- The agent's configuration, as ATTACH and REJOIN report it (Tables 47 and 61). -/
def Device.attachInfo (d : Device) (a : Agent) (count : Nat) : Results :=
  let x := d.agent a
  { result := .ok, count := some count
    window := .attachInfo x.holdQuota x.waitQuota x.cap x.create d.boot }

/-- Entry 0 has no holder, nobody waits for it, and the grant decision may run on it (R151). -/
def Device.leaseFree (d : Device) : Bool :=
  match d.entry 0 with
  | none => false
  | some r => r.decidable && r.holders.isEmpty && r.queue.isEmpty && r.group.isNone

/-- ATTACH from REJOINING: the agent departs and then becomes ONLINE (R136). Where it is the boot agent and
its departure leaves entry 0 free, entry 0 is granted to it at the end; that grant's ticket comes before
those of the entries after entry 0 (R25), so it is set aside when the departure leaves entry 0. -/
def Device.attachRejoining (d : Device) (a : Agent) : Device :=
  let d := Device.departEntry [a] (d.setRoster a .offline) 0
  let lease := a = d.boot && d.leaseFree && decide (0 < (d.agent a).holdQuota)
  let t := d.ticket
  let d := if lease then d.advanceTicket else d
  let d := allEntries.tail.foldl (Device.departEntry [a]) d
  let d := ((d.clearAgentNotices a).setRoster a .online).closeWindow
  if lease then
    ((d.addHolder 0
      { agent := a, mode := .exclusive, ticket := t, priority := 3, remaining := .unbounded }).post 0 a
      .granted).evaluate 0
  else if a = d.boot then d.handOn 0
  else d

/-- ATTACH (R135, R136). -/
def takeAttach : Take := fun a _ d =>
  match (d.agent a).state with
  | .online => done d .wrongState
  | .fenced => done d .notPermitted
  | .offline =>
    let d := d.setRoster a .online
    (if a = d.boot then d.handOn 0 else d, some (d.attachInfo a 0))
  | .rejoining => (d.attachRejoining a, some (d.attachInfo a (d.holdCount a)))

/-- DETACH (R137). -/
def takeDetach : Take := fun a _ d => done (d.depart [a] .offline) .ok

/-- Every entry on which the agent holds a grant is evaluated (R98). -/
def Device.evaluateHolds (d : Device) (a : Agent) : Device :=
  allEntries.foldl
    (fun d e => match d.entry e with
      | some r => if r.heldBy a then d.evaluate e else d
      | none => d) d

/-- REJOIN (R178). -/
def takeRejoin : Take := fun a _ d =>
  if (d.agent a).state = .rejoining then
    let info := d.attachInfo a (d.holdCount a)
    let d := (d.setRoster a .online).evaluateHolds a
    ((if a = d.boot then d.handOn 0 else d).closeWindow, some info)
  else done d .wrongState

/-- FENCE (R142). -/
def takeFence : Take := fun a p d =>
  match agentOf p.agent with
  | none => done d .badParam
  | some x =>
    if x = a then done d .notPermitted
    else
      let fenced (n : Nat) : Results := { result := .ok, count := some n }
      match (d.agent x).state with
      | .fenced => done d .wrongState
      | .offline => (d.setRoster x .fenced, some (fenced 0))
      | .online | .rejoining => (d.depart [x] .fenced, some (fenced (d.holdCount x)))

/-- UNFENCE (R143). -/
def takeUnfence : Take := fun _ p d =>
  match agentOf p.agent with
  | none => done d .badParam
  | some x =>
    if (d.agent x).state = .fenced then done (d.setRoster x .offline) .ok else done d .wrongState

/-- SET AGENT (R144). -/
def takeSetAgent : Take := fun _ p d =>
  match agentParams p with
  | none => done d .badParam
  | some (x, holdQuota, waitQuota, cap, create) =>
    if holdQuota < d.holdCount x + d.nonUpgradeWaits x ∨ waitQuota < d.waitCount x then
      (d, some { result := .inUse
                 window := .counts (d.holdCount x) (d.nonUpgradeWaits x) (d.waitCount x) })
    else done (d.setAgent x { d.agent x with holdQuota, waitQuota, cap, create }) .ok

/-- ATTACH (R135, R136). -/
def execAttach (ch : Agent) (w : Writes) (s : State) : Host.Outcome State Fault Refusal :=
  s.onLive (commandWrite .attach takeAttach ch w)

/-- DETACH (R137). -/
def execDetach (ch : Agent) (w : Writes) (s : State) : Host.Outcome State Fault Refusal :=
  s.onLive (commandWrite .detach takeDetach ch w)

/-- REJOIN (R178). -/
def execRejoin (ch : Agent) (w : Writes) (s : State) : Host.Outcome State Fault Refusal :=
  s.onLive (commandWrite .rejoin takeRejoin ch w)

/-- FENCE (R142). -/
def execFence (ch : Agent) (w : Writes) (s : State) : Host.Outcome State Fault Refusal :=
  s.onLive (commandWrite .fence takeFence ch w)

/-- UNFENCE (R143). -/
def execUnfence (ch : Agent) (w : Writes) (s : State) : Host.Outcome State Fault Refusal :=
  s.onLive (commandWrite .unfence takeUnfence ch w)

/-- SET AGENT (R144). -/
def execSetAgent (ch : Agent) (w : Writes) (s : State) : Host.Outcome State Fault Refusal :=
  s.onLive (commandWrite .setAgent takeSetAgent ch w)

end Sys2Proof.Machine
end

