-- ==== Sys2Proof/Machine/Link.lean ====
section
/-!
DEFINITION. Chapters 10 and 12: a write transaction as a whole, and the rows of the table that are writes
without a command of their own.
-/
namespace Sys2Proof.Machine

/-- The rule that takes each command (Tables 3, 4 and 64). -/
def takeOf : Cmd → Take
  | .attach => takeAttach
  | .detach => takeDetach
  | .rejoin => takeRejoin
  | .openEntry => takeOpen
  | .query => takeQuery
  | .request => takeRequest
  | .release => takeRelease
  | .renew => takeRenew
  | .downgrade => takeDowngrade
  | .cancel => takeCancel
  | .check => takeCheck
  | .takeNotice => takeTakeNotice
  | .retire => takeRetire
  | .define => takeDefine
  | .amend => takeAmend
  | .forceRelease => takeForceRelease
  | .fence => takeFence
  | .unfence => takeUnfence
  | .setAgent => takeSetAgent
  | .configure => takeConfigure
  | .clearFault => takeClearFault
  | .warmReset => takeWarmReset

/-- A write transaction that applies the bytes `w`, at its end (R160, R161, R181, R182): ignored in RESET;
the registers, ABORT and ACK first, and then the triggers, which start one command, or none. DESIGN CHOICE (log 27): a
transaction that is sent partly during RESET is judged by the channel state at its end alone. -/
def linkWrite (ch : Agent) (w : Writes) (d : Device) : Device :=
  if (d.chan ch).state = .reset then d
  else
    match triggersIn w with
    | [] => d.applyWrites ch w
    | [c] => (d.applyWrites ch w).trigger ch c (takeOf c)
    | _ :: _ :: _ => (d.applyWrites ch w).manyTriggers ch

/-- The bytes `w` with the bits `v` set in the byte written to CONTROL (R182). -/
def withControl (w : Writes) (v : Byte) : Writes :=
  w ++ [(controlAddr, (lastWrite w controlAddr).getD 0 ||| v)]

/-- Two or more triggers in one transaction (R160). -/
def execMultipleTriggers (ch : Agent) (w : Writes) (s : State) : Host.Outcome State Fault Refusal :=
  s.onLive (linkWrite ch w)

/-- ACK (R164). -/
def execAck (ch : Agent) (w : Writes) (s : State) : Host.Outcome State Fault Refusal :=
  s.onLive (linkWrite ch (withControl w 0x01))

/-- ABORT (R165). -/
def execAbort (ch : Agent) (w : Writes) (s : State) : Host.Outcome State Fault Refusal :=
  s.onLive (linkWrite ch (withControl w 0x02))

/-- A write of ATTNEN (R166, R182). -/
def execAttnenWrite (ch : Agent) (v : Byte) (w : Writes) (s : State) : Host.Outcome State Fault Refusal :=
  s.onLive (linkWrite ch (w ++ [(attnenAddr, v)]))

/-- A write of VIEWPAGE (R182, R184). -/
def execViewpageWrite (ch : Agent) (v : Byte) (w : Writes) (s : State) : Host.Outcome State Fault Refusal :=
  s.onLive (linkWrite ch (w ++ [(viewpageAddr, v)]))

/-- A write of registers from `start` upwards (R181, R182). -/
def execRegisterWrite (ch : Agent) (start : RegAddr) (data : List Byte) (s : State) :
    Host.Outcome State Fault Refusal :=
  s.onLive (linkWrite ch (spread start data))

end Sys2Proof.Machine
end

