-- ==== Sys2Proof/Machine/Steering.lean ====
section
/-!
DEFINITION. Chapter 7: the edges of STDONE, the settle and the timeout of a switch.
-/
namespace Sys2Proof.Machine

/-- The group is SWITCHING in phase REQUESTING (R113). -/
def GroupRec.requesting (x : GroupRec) : Bool :=
  x.state == .switching && match x.phase with | some (.requesting _) => true | _ => false

/-- The group is SWITCHING in phase DEFERRED (R113). -/
def GroupRec.isDeferred (x : GroupRec) : Bool := x.state == .switching && x.phase == some .deferred

/-- The switch-target cell of a record: the cell of the target agent with the switch-target flag set
(R120, R123). -/
def Record.targetCell (r : Record) : Option WaitCell :=
  match r.occupancy with
  | .switching (.agent a) => r.queue.find? fun c => c.agent = a ∧ c.target
  | _ => none

/-- The target cell granted at a settle: an IN_FLIGHT REQUEST completes GRANTED, any other agent receives a
GRANTED notice (R76, R77, R120). -/
def Device.settleGrant (d : Device) (e : EntryIx) (r : Record) (c : WaitCell) : Device :=
  let term := r.grantedTerm c.term
  let d' := (d.removeCell e c.agent).newGrant e c.agent .exclusive c.priority term
  if d.inFlightOn c.agent e then
    d'.finish c.agent .request (grantedResults c.priority d.ticket .exclusive term)
  else d'.post e c.agent .granted

/-- The entry handed on at a settle: the target cell of a LIVE entry is granted; with no such cell the grant
decision runs, and on a RETIRING entry the settle is the drain completion (R120). -/
def Device.settleEntry (d : Device) (e : EntryIx) (r : Record) : Device :=
  let d := d.modifyEntry e fun r => { r with occupancy := .idle }
  match r.isRetiring, r.targetCell with
  | false, some c => (d.settleGrant e r c).evaluate e
  | _, _ => d.handOn e

/-- The settle of group `g` (R119, R120). -/
def Device.settle (d : Device) (g : GroupIx) : Device :=
  let x := d.group g
  let d := d.setGroup g { x with state := .settled, settleKnown := true, phase := none, stdone := true }
  match x.binding with
  | none => d
  | some b =>
    match d.entry b.entry with
    | none => d
    | some r => d.settleEntry b.entry r

/-- A rise of STDONE taken: the settle in phase REQUESTING, otherwise the level alone (R113, R119). -/
def Device.stdoneRise (d : Device) (g : GroupIx) : Device :=
  if (d.group g).requesting then d.settle g else d.setGroup g { d.group g with stdone := true }

/-- A fall of STDONE taken: it drives a deferred switch into phase REQUESTING toward the target of the
record, otherwise it changes the level alone (R113, R118). -/
def Device.stdoneFall (d : Device) (g : GroupIx) : Device :=
  let x : GroupRec := { d.group g with stdone := false }
  if x.isDeferred then
    match x.binding with
    | none => d.setGroup g x
    | some b =>
      match (d.entry b.entry).map Record.occupancy with
      | some (Occupancy.switching t) => d.setGroup g (x.enterRequesting b t)
      | _ => d.setGroup g x
  else d.setGroup g x

/-- The target cell of a failed switch is removed, and its agent told: STEER_FAULT (R123). -/
def Device.dropTarget (d : Device) (e : EntryIx) (r : Record) : Device :=
  match r.targetCell with
  | none => d
  | some c => (d.tellWaiter e c .steerFault .steerFault).removeCell e c.agent

/-- The failure of the switch of group `g` (R123): group and entry become FAULTED; on a RETIRING entry it is
the drain completion. -/
def Device.switchFails (d : Device) (g : GroupIx) : Device :=
  let x := d.group g
  let d := d.setGroup g { x with state := .faulted, settleKnown := false, phase := none }
  match x.binding with
  | none => d
  | some b =>
    match d.entry b.entry with
    | none => d
    | some r =>
      let d := d.modifyEntry b.entry fun r => { r with occupancy := .faulted }
      ((d.dropTarget b.entry r).checkDrain b.entry).evaluate b.entry

/-- STDONE of group `g` rises; no edge where it is high already. -/
def riseOf (g : GroupIx) (s : State) : Host.Outcome State Fault Refusal :=
  if tget s.pins.stdoneHigh g then .next s
  else
    { s with pins := { s.pins with stdoneHigh := tset s.pins.stdoneHigh g true } : State }.onLive
      fun d => d.stdoneRise g

/-- A rise of STDONE, as the row of a group in phase REQUESTING (R113, R119). -/
def execSettle (g : GroupIx) (s : State) : Host.Outcome State Fault Refusal := riseOf g s

/-- A rise of STDONE, as the row of a group in any other state or phase (R113). -/
def execStdoneRise (g : GroupIx) (s : State) : Host.Outcome State Fault Refusal := riseOf g s

/-- STDONE of group `g` falls (R113, R118); no edge where it is low already. -/
def execStdoneFall (g : GroupIx) (s : State) : Host.Outcome State Fault Refusal :=
  if tget s.pins.stdoneHigh g then
    { s with pins := { s.pins with stdoneHigh := tset s.pins.stdoneHigh g false } : State }.onLive
      fun d => d.stdoneFall g
  else .next s

end Sys2Proof.Machine
end

