-- ==== Sys2Proof/Machine/Timers.lean ====
section
/-!
DEFINITION. Chapter 3 and the countdowns of chapters 4, 5, 7 and 11: the term tick, and the expiry events
as their owners take them.
-/
namespace Sys2Proof.Machine

/-! ### The term tick -/

/-- A remaining term after one tick; UNBOUNDED is not moved, and 0 stays 0 (R45). -/
def Term.tick : Term → Term
  | .ms n => .ms (n - 1)
  | .unbounded => .unbounded

/-- A holder record after one tick (R45). -/
def Holder.tick (h : Holder) : Holder :=
  { h with remaining := h.remaining.tick, grace := h.grace.map (· - 1) }

/-- A wait cell after one tick (R69). -/
def WaitCell.tick (c : WaitCell) : WaitCell := { c with deadline := c.deadline.map (· - 1) }

/-- A resource record after one tick. -/
def Record.tick (r : Record) : Record :=
  { r with holders := r.holders.map Holder.tick, queue := r.queue.map WaitCell.tick }

/-- A handshake phase after one tick (R118). -/
def Phase.tick : Phase → Phase
  | .deferred => .deferred
  | .requesting n => .requesting (n - 1)

/-- The expiries that the holder records and cells of an entry issue at the tick that takes their
countdowns from 1 to 0 (R45, R49, R69, R91). -/
def Record.expiries (r : Record) (e : EntryIx) : List Expiry :=
  (r.holders.filterMap fun h =>
    if h.remaining = .ms 1 then some (.term e h.agent h.ticket) else none) ++
  (r.holders.filterMap fun h =>
    if h.grace = some 1 then some (.grace e h.agent h.ticket) else none) ++
  (r.queue.filterMap fun c => if c.deadline = some 1 then some (.wait e c.agent) else none)

/-- The expiries that a tick issues (R45, Table 20). -/
def Device.expiriesDue (d : Device) : List Expiry :=
  (allEntries.flatMap fun e => match d.entry e with | some r => r.expiries e | none => []) ++
  (allGroups.filterMap fun g =>
    if (d.group g).phase = some (.requesting 1) then some (.switch g) else none) ++
  (if d.reclaimLeft = some 1 then [.window] else [])

/-- A term tick: every running countdown decreases by one, the countdowns that reach zero issue their
expiries, and a new tick period begins with the divisor now configured (R43 to R45). -/
def Device.tick (d : Device) : Device :=
  { d with
    slots := tabulate fun e => { d.slot e with record := (d.slot e).record.map Record.tick }
    groups := tabulate fun g => { d.group g with phase := (d.group g).phase.map Phase.tick }
    reclaimLeft := d.reclaimLeft.map (· - 1)
    issued := d.issued ++ d.expiriesDue
    tickPhase := 0
    tickPeriod := d.config.tickDiv }

/-- One REFCLK period elapses within a tick period (R43). -/
def Device.refclk (d : Device) : Device := { d with tickPhase := d.tickPhase + 1 }

/-- The rest of the tick period elapses and the tick occurs (R43, R45). -/
def execTermTick (s : State) : Host.Outcome State Fault Refusal := s.onLive Device.tick

/-! ### Expiries as their owners take them -/

/-- An issued expiry event is taken by its owner; an event that has not been issued does not exist and
changes nothing (R45, R46). -/
def Device.takeIssued (d : Device) (x : Expiry) (f : Device → Device) : Device :=
  if x ∈ d.issued then f { d with issued := d.issued.erase x } else d

/-- The holder record that a term expiry or a grace expiry names (R50, R91). -/
def Device.named (d : Device) (e : EntryIx) (a : Agent) (t : Ticket) : Option Holder :=
  (d.entry e).bind fun r => r.holders.find? fun h => h.agent = a ∧ h.ticket = t

/-- The resource table takes a term expiry (R50 to R52). -/
def Device.termExpires (d : Device) (e : EntryIx) (a : Agent) (t : Ticket) : Device :=
  match d.named e a t with
  | none => d
  | some h => if h.remaining = .ms 0 then ((d.endGrant e a).post e a .expired).handOn e else d

/-- The wait queue unit takes a wait-limit expiry (R69). -/
def Device.waitExpires (d : Device) (e : EntryIx) (a : Agent) : Device :=
  match d.entry e with
  | none => d
  | some r =>
    if r.queue.any fun c => c.agent = a ∧ c.deadline = some 0 then
      ((d.removeCell e a).post e a .waitEnded).handOn e
    else d

/-- The yield logic takes a grace expiry (R91 to R93). -/
def Device.graceExpires (d : Device) (e : EntryIx) (a : Agent) (t : Ticket) : Device :=
  match d.named e a t with
  | none => d
  | some h => if h.asked ∧ h.grace = some 0 then d.revoke e a else d

/-- The steering unit takes a switch timeout (R123). -/
def Device.switchExpires (d : Device) (g : GroupIx) : Device :=
  if (d.group g).state = .switching ∧ (d.group g).phase = some (.requesting 0) then d.switchFails g else d

/-- The retention controller takes the window expiry: every agent still REJOINING departs, and the window
ends (R179). -/
def Device.windowExpires (d : Device) : Device :=
  d.depart (allAgents.filter fun a => (d.agent a).state = .rejoining) .offline

/-- A term expiry (R50, R51). -/
def execTermExpiry (e : EntryIx) (a : Agent) (t : Ticket) (s : State) : Host.Outcome State Fault Refusal :=
  s.onLive fun d => d.takeIssued (.term e a t) fun d => d.termExpires e a t

/-- A wait-limit expiry (R69). -/
def execWaitLimitExpiry (e : EntryIx) (a : Agent) (s : State) : Host.Outcome State Fault Refusal :=
  s.onLive fun d => d.takeIssued (.wait e a) fun d => d.waitExpires e a

/-- A grace expiry (R91). -/
def execGraceExpiry (e : EntryIx) (a : Agent) (t : Ticket) (s : State) : Host.Outcome State Fault Refusal :=
  s.onLive fun d => d.takeIssued (.grace e a t) fun d => d.graceExpires e a t

/-- A switch timeout (R123). -/
def execSwitchTimeout (g : GroupIx) (s : State) : Host.Outcome State Fault Refusal :=
  s.onLive fun d => d.takeIssued (.switch g) fun d => d.switchExpires g

/-- The window expiry (R179). -/
def execWindowExpiry (s : State) : Host.Outcome State Fault Refusal :=
  s.onLive fun d => d.takeIssued .window Device.windowExpires

/-! ### The events that the part brings itself -/

/-- The row at which an issued expiry is taken. -/
def Expiry.row : Expiry → Instr
  | .term e a t => .termExpiry e a t
  | .wait e a => .waitLimitExpiry e a
  | .grace e a t => .graceExpiry e a t
  | .switch g => .switchTimeout g
  | .window => .windowExpiry

/-- The row that the part brings itself when nothing waits in the queue: the end of the cause that a WARM RESET command
gave (R173), the expiry issued first (R45), the tick at the end of its period (R43). DESIGN CHOICE (log 3). -/
def State.ownRow (s : State) : Option Instr :=
  match s.dev with
  | none => none
  | some d =>
    if d.cmdReset then some (.warmResetRelease .command)
    else if s.held then none
    else
      match d.issued with
      | x :: _ => some x.row
      | [] => if d.tickPhase + 1 < d.tickPeriod then none else some .termTick

end Sys2Proof.Machine
end

