-- ==== Sys2Proof/Machine/Dispatch.lean ====
section
/-! DEFINITION. One arm per row of spec/opcode_table.json: the meaning of each command and event. -/
namespace Sys2Proof.Machine

def exec (i : Instr) (s : State) : Host.Outcome State Fault Refusal :=
  match i with
  | .attach ch w => Sys2Proof.Machine.execAttach ch w s
  | .detach ch w => Sys2Proof.Machine.execDetach ch w s
  | .rejoin ch w => Sys2Proof.Machine.execRejoin ch w s
  | .openEntry ch w => Sys2Proof.Machine.execOpenEntry ch w s
  | .query ch w => Sys2Proof.Machine.execQuery ch w s
  | .request ch w => Sys2Proof.Machine.execRequest ch w s
  | .release ch w => Sys2Proof.Machine.execRelease ch w s
  | .renew ch w => Sys2Proof.Machine.execRenew ch w s
  | .downgrade ch w => Sys2Proof.Machine.execDowngrade ch w s
  | .cancel ch w => Sys2Proof.Machine.execCancel ch w s
  | .check ch w => Sys2Proof.Machine.execCheck ch w s
  | .takeNotice ch w => Sys2Proof.Machine.execTakeNotice ch w s
  | .retire ch w => Sys2Proof.Machine.execRetire ch w s
  | .define ch w => Sys2Proof.Machine.execDefine ch w s
  | .amend ch w => Sys2Proof.Machine.execAmend ch w s
  | .forceRelease ch w => Sys2Proof.Machine.execForceRelease ch w s
  | .fence ch w => Sys2Proof.Machine.execFence ch w s
  | .unfence ch w => Sys2Proof.Machine.execUnfence ch w s
  | .setAgent ch w => Sys2Proof.Machine.execSetAgent ch w s
  | .configure ch w => Sys2Proof.Machine.execConfigure ch w s
  | .clearFault ch w => Sys2Proof.Machine.execClearFault ch w s
  | .warmReset ch w => Sys2Proof.Machine.execWarmReset ch w s
  | .multipleTriggers ch w => Sys2Proof.Machine.execMultipleTriggers ch w s
  | .ack ch w => Sys2Proof.Machine.execAck ch w s
  | .abort ch w => Sys2Proof.Machine.execAbort ch w s
  | .attnenWrite ch v w => Sys2Proof.Machine.execAttnenWrite ch v w s
  | .viewpageWrite ch v w => Sys2Proof.Machine.execViewpageWrite ch v w s
  | .registerWrite ch start data => Sys2Proof.Machine.execRegisterWrite ch start data s
  | .agrstFall a => Sys2Proof.Machine.execAgrstFall a s
  | .agrstRise a => Sys2Proof.Machine.execAgrstRise a s
  | .settle g => Sys2Proof.Machine.execSettle g s
  | .stdoneFall g => Sys2Proof.Machine.execStdoneFall g s
  | .warmResetBegin c => Sys2Proof.Machine.execWarmResetBegin c s
  | .warmResetRelease c => Sys2Proof.Machine.execWarmResetRelease c s
  | .coldReset bootsel => Sys2Proof.Machine.execColdReset bootsel s
  | .termTick => Sys2Proof.Machine.execTermTick s
  | .termExpiry e a t => Sys2Proof.Machine.execTermExpiry e a t s
  | .waitLimitExpiry e a => Sys2Proof.Machine.execWaitLimitExpiry e a s
  | .graceExpiry e a t => Sys2Proof.Machine.execGraceExpiry e a t s
  | .switchTimeout g => Sys2Proof.Machine.execSwitchTimeout g s
  | .windowExpiry => Sys2Proof.Machine.execWindowExpiry s
  | .stdoneRise g => Sys2Proof.Machine.execStdoneRise g s
  | .retentionSupplyLoss => Sys2Proof.Machine.execRetentionSupplyLoss s

end Sys2Proof.Machine
end

