-- ==== Sys2Proof/Machine/Step.lean ====
section
/-!
DEFINITION. One step of the block: the command at the front of the queue, or what the part does by itself where none
waits; and how a command that a word spells is put at the front of the queue.
-/
namespace Sys2Proof.Machine

/-- One step. The command at the front of the queue is run on the state with the queue's rest. On an empty queue the part
brings its own next event, or lets one REFCLK period pass where it has none (R43, R45, R173); a part without its retention
supply, or held by a level on the board, idles. DESIGN CHOICE (log 3): that it does so only then. -/
def step (s : State) : Host.Outcome State Fault Refusal :=
  match s.pending with
  | c :: rest => exec c { s with pending := rest }
  | [] =>
    match s.ownRow with
    | some i => exec i s
    | none => s.onLive Device.refclk

/-- The state with the command that a word spells at the front of its queue; unchanged where the word
spells none. -/
def State.withFetchWord (s : State) (nbits w : Nat) : State :=
  match decodeTableWord nbits w with
  | some c => { s with pending := c :: s.pending }
  | none => s

end Sys2Proof.Machine
end

