-- ==== Sys2Proof/Safety.lean ====
section
/-!
DEFINITION. The terms in which claims about the part are made: when a transaction starts a command, what its answer is,
which state an event may reach, and what a safe run is: the conditions that the manual says hold in every
condition of the device.
-/
namespace Sys2Proof.Machine

/-! ### A command taken -/

/-- The part takes events: its retention supply is present and no warm reset is held (R172, R175). -/
structure Live (s : State) (d : Device) : Prop where
  dev : s.dev = some d
  free : s.held = false

/-- The bytes `w` on the link of `ch`, with the trigger of `c`, start the command `c`: the part is live, the
channel listens, no other trigger is written, and the channel is READY once the other bytes have been
applied (R160). `d₁` is the device at that point, and its parameter registers are those the command latches. -/
structure Starts (s : State) (d : Device) (ch : Agent) (c : Cmd) (w : Writes) (d₁ : Device) : Prop where
  live : Live s d
  listens : (d.chan ch).state ≠ .reset
  only : (triggersIn w).all (· = c) = true
  applied : d₁ = d.applyWrites ch w
  ready : (d₁.chan ch).state = .ready

/-- `Starts`, from an agent that is ONLINE (R162). -/
structure StartsOnline (s : State) (d : Device) (ch : Agent) (c : Cmd) (w : Writes) (d₁ : Device) : Prop where
  starts : Starts s d ch c w d₁
  online : (d₁.agent ch).state = .online

/-- `Starts`, from the control holder (R147, R148). -/
structure StartsControl (s : State) (d : Device) (ch : Agent) (c : Cmd) (w : Writes) (d₁ : Device) : Prop where
  starts : Starts s d ch c w d₁
  online : (d₁.agent ch).state = .online
  control : d₁.controlHolder = some ch

/-- The parameter registers of channel `ch` (Table 63). -/
def Device.params (d : Device) (ch : Agent) : Params := (d.chan ch).params

/-- The channel after the command `c` was started on it and completed with the result fields `r`: READY,
COMPLETE set, OVERRUN clear, and nothing else changed (R160, R163). -/
def Channel.answer (x : Channel) (c : Cmd) (r : Results) : Channel :=
  { x with state := .ready, latched := none, completed := some c, results := r, complete := true, overrun := false }

/-- The device with the answer of command `c` on channel `ch`. -/
def Device.answered (d : Device) (ch : Agent) (c : Cmd) (r : Results) : Device :=
  { d with channels := tset d.channels ch ((tget d.channels ch).answer c r) }

/-- The state after a command: `s` with the device `d'`. -/
abbrev State.withDev (s : State) (d' : Device) : State := { s with dev := some d' }

/-- The device with the record `r` in the non-FREE slot `e`. -/
def Device.putRecord (d : Device) (e : EntryIx) (r : Record) : Device :=
  { d with slots := tset d.slots e { tget d.slots e with record := some r } }

/-- The bits of a byte as they pass on the link, most significant bit first (R181). -/
def msbFirst (b : Byte) : List Bool :=
  [b.getLsbD 7, b.getLsbD 6, b.getLsbD 5, b.getLsbD 4, b.getLsbD 3, b.getLsbD 2, b.getLsbD 1, b.getLsbD 0]

/-! ### What an event on one entry may reach -/

/-- From `d` to `d'` at most the slot `e`, its notice cells, the group that steers it and the ticket counter
have changed; a record that stays in the slot keeps its group. -/
structure OnlyEntry (e : EntryIx) (d d' : Device) : Prop where
  slots : ∀ x, x ≠ e → d'.slot x = d.slot x
  notices : ∀ x, x ≠ e → ∀ a, d'.notice x a = d.notice x a
  groups : ∀ g, (∀ r, d.entry e = some r → r.group ≠ some g) → d'.group g = d.group g
  steered : ∀ r', d'.entry e = some r' → ∃ r, d.entry e = some r ∧ r'.group = r.group
  agents : d'.agents = d.agents
  channels : d'.channels = d.channels
  boot : d'.boot = d.boot
  config : d'.config = d.config
  tickPhase : d'.tickPhase = d.tickPhase
  tickPeriod : d'.tickPeriod = d.tickPeriod
  issued : d'.issued = d.issued
  cmdReset : d'.cmdReset = d.cmdReset
  recorded : d'.recorded = d.recorded
  reclaimLeft : d'.reclaimLeft = d.reclaimLeft

/-! ### Requests -/

/-- The REQUEST of agent `ch` in mode `m` on the entry with record `r` passes the checks of R28 and R29. -/
structure RequestPasses (d : Device) (ch : Agent) (r : Record) (m : WaitMode) : Prop where
  live : r.lifecycle = .live
  sharing : m = .exclusive ∨ r.sharing = .sharedAllowed
  holds : if m = .upgrade then (r.holder ch).map (·.mode) = some .shared else r.heldBy ch = false
  waits : r.waitedBy ch = false
  single : m = .upgrade → ∀ c ∈ r.queue, c.mode ≠ .upgrade
  quota : m ≠ .upgrade → d.holdCount ch + d.nonUpgradeWaits ch < (d.agent ch).holdQuota

/-- The cases of R31 in which a REQUEST in mode `m` is answered at once or starts a switch, whatever its wait limit. -/
def servedAtOnce (ch : Agent) (r : Record) : WaitMode → Prop
  | .exclusive => r.occupancy = .idle ∧ r.queue = []
  | .shared => (r.occupancy = .idle ∨ r.occupancy = .heldS) ∧ r.queue = []
  | .upgrade => r.holders.map (·.agent) = [ch]

/-- The form of a REQUEST is good, and it names entry `e` with record `r`, mode `m`, priority `q` and term `t` (R27). -/
structure RequestNames (d : Device) (ch : Agent) (e : EntryIx) (r : Record) (m : WaitMode) (q : Priority) (t : Term) :
    Prop where
  entry : d.lookup (d.params ch).handle = .ok (e, r)
  mode : requestMode (d.params ch).mode = some m
  priority : priorityOf (d.params ch).prio = some q
  term : requestedTerm (d.params ch).term = some t

/-- The granted term of R33: a term of 0 becomes the default term, and a term above the max term becomes the max
term. -/
def termGranted (r : Record) (t : Term) : Term :=
  let t' := if t = .ms 0 then r.defaultTerm else t
  if t'.le r.maxTerm then t' else r.maxTerm

/-- What a grant on its way through a warm reset or a REJOIN keeps: all but the yield state (R23, R178). -/
def Holder.kept (h : Holder) : Agent × GrantMode × Ticket × Priority × Term :=
  (h.agent, h.mode, h.ticket, h.priority, h.remaining)

/-- A record after the grant of agent `a` on it has ended: its holder record and its UPGRADE cell are gone, and the
occupancy follows the holders left (R36 to R38, R50, R51, R92). -/
def Record.withoutGrant (r : Record) (a : Agent) : Record :=
  { r with
    holders := r.holders.filter fun h => h.agent ≠ a
    queue := r.queue.filter fun c => ¬ (c.agent = a ∧ c.mode = .upgrade)
    occupancy := occupancyOf (r.holders.filter fun h => h.agent ≠ a) }

/-- A record after the cell of agent `a` has been removed (R66). -/
def Record.withoutCell (r : Record) (a : Agent) : Record :=
  { r with queue := r.queue.filter fun c => c.agent ≠ a }

/-- What a holder record becomes at an evaluation of its entry (R83, R86 to R88): asked where its agent is ONLINE and another
agent's cell stands above its priority, no longer asked where none does. -/
def evaluated (d : Device) (r : Record) (h : Holder) : Holder :=
  if r.policy = .none then h
  else if ∃ c ∈ r.queue, c.agent ≠ h.agent ∧ h.priority < c.priority then
    if h.asked = false ∧ (d.agent h.agent).state = .online then
      { h with asked := true, grace := match r.policy with | .force g => some g | _ => none }
    else h
  else if h.asked = true then { h with asked := false, grace := none }
  else h

/-! ### Parameters of a record -/

/-- A term register, where it holds 1 to 65535 or UNBOUNDED (R183). -/
def givenTerm (v : BitVec 32) : Term := if v = 0xFFFFFFFF then .unbounded else .ms v.toNat

/-- The value of a term register is outside its range (R183, Table 11). -/
def badTerm (v : BitVec 32) : Prop := v = 0 ∨ (65535 < v.toNat ∧ v ≠ 0xFFFFFFFF)

/-- The parameters of a DEFINE or an AMEND are not consistent (R12). -/
def Params.Inconsistent (p : Params) : Prop :=
  1 < p.sharing.toNat ∨ 2 < p.policy.toNat ∨
  (p.policy = 2 ∧ (p.grace = 0 ∨ 4095 < p.grace.toNat)) ∨
  badTerm p.defterm ∨ badTerm p.maxterm ∨
  (p.options.getLsbD 1 = false ∧ (p.defterm = 0xFFFFFFFF ∨ p.maxterm = 0xFFFFFFFF)) ∨
  p.maxterm.toNat < p.defterm.toNat ∨
  4 < p.group.toNat ∨
  (p.group ≠ 0 ∧ (8 < p.home.toNat ∨ 1 < p.parkpol.toNat ∨ p.sharing = 1))

/-- The record `r` with the parameters that a DEFINE or an AMEND gives, and the steering group `g` (Tables 7, 11 and 63). -/
def Params.written (p : Params) (r : Record) (g : Option GroupIx) : Record :=
  { r with
    sharing := if p.sharing = 0 then .exclusiveOnly else .sharedAllowed
    policy := if p.policy = 0 then .none else if p.policy = 1 then .ask else .force p.grace.toNat
    defaultTerm := givenTerm p.defterm
    maxTerm := givenTerm p.maxterm
    unboundedAllowed := p.options.getLsbD 1
    group := g }

/-- A new record of origin `o`, LIVE and IDLE with nobody holding or waiting (R9). -/
def newRecord (key : Key) (o : Origin) : Record :=
  { key, origin := o, sharing := .exclusiveOnly, policy := .none, defaultTerm := .ms 1, maxTerm := .ms 1
    unboundedAllowed := false, group := none, lifecycle := .live, occupancy := .idle, holders := [], queue := [] }

/-- The parameters name group `g`, to be bound as `b` to entry `e` under the default switch timeout `timeout` (R13, R115). -/
structure Params.Steers (p : Params) (e : EntryIx) (timeout : Nat) (g : GroupIx) (b : Binding) : Prop where
  group : p.group.toNat = g.val + 1
  entry : b.entry = e
  home : (p.home = 8 ∧ b.home = .park) ∨ ∃ a : Agent, p.home.toNat = a.val ∧ b.home = .agent a
  parkPolicy : b.parkPolicy = if p.parkpol = 0 then .stay else .home
  timeout : b.timeout = if p.swtimeout = 0 then timeout else p.swtimeout.toNat

/-- The occupancy of the idle entry of a group bound as `b`: SWITCHING where a switch to home starts (R115). -/
def GroupRec.homeOccupancy (x : GroupRec) (b : Binding) : Occupancy :=
  if b.parkPolicy = .home ∧ x.select ≠ b.home then .switching .home else .idle

/-- A group bound as `b`, with a switch to home started where one is due (R115, R117, R118). -/
def GroupRec.homeward (x : GroupRec) (b : Binding) : GroupRec :=
  if b.parkPolicy = .home ∧ x.select ≠ b.home then
    if x.stdone = true then { x with state := .switching, phase := some .deferred }
    else { x with state := .switching, settleKnown := false, select := b.home, phase := some (.requesting b.timeout) }
  else x

/-- A group just bound as `b`, before any switch to home (R115). -/
def GroupRec.newlyBound (x : GroupRec) (b : Binding) : GroupRec :=
  { x with state := .settled, binding := some b, settleKnown := false, phase := none }

/-! ### Departures and resets -/

/-- The agents `as` have departed for `dest` (R133, R138, R139). They hold nothing, wait on nothing and have nothing pending; an
IN_FLIGHT REQUEST of theirs completes ABORTED. A record changes in its holders, queue and occupancy alone; the other agents keep
what they hold, and wait on or are granted what they waited for; a slot goes FREE only by the drain of a RETIRING entry. -/
structure Departed (as : List Agent) (dest : Roster) (d d' : Device) : Prop where
  gone : ∀ a ∈ as, d'.agent a = { d.agent a with state := dest }
  nothing : ∀ a ∈ as, ∀ e r, d'.entry e = some r → r.heldBy a = false ∧ r.waitedBy a = false
  quiet : ∀ a ∈ as, ∀ e, d'.notice e a = {}
  still : ∀ a ∈ as, (d.chan a).state ≠ .inFlight → d'.chan a = d.chan a
  aborted : ∀ a ∈ as, ∀ e r c, d.inFlightOn a e = true → d.entry e = some r → r.isSwitching = true →
    r.cell a = some c → d'.chan a = { d.chan a with
      state := .ready, latched := none, completed := some .request
      results := { result := .aborted, priority := some c.priority }, complete := true }
  others : ∀ a, a ∉ as → d'.agent a = d.agent a ∧ d'.chan a = d.chan a
  untouched : ∀ e, (∀ a ∈ as, d.concerns e a = false) →
    d'.slot e = d.slot e ∧ ∀ a, a ∉ as → d'.notice e a = d.notice e a
  groups : ∀ g, (∀ e r, d.entry e = some r → r.group = some g → ∀ a ∈ as, d.concerns e a = false) →
    d'.group g = d.group g
  records : ∀ e r r', d.entry e = some r → d'.entry e = some r' →
    { r' with holders := r.holders, queue := r.queue, occupancy := r.occupancy } = r ∧
    (d'.slot e).generation = (d.slot e).generation
  served : ∀ e r r' a, d.entry e = some r → d'.entry e = some r' → a ∉ as →
    (r.heldBy a = true → r'.heldBy a = true) ∧
    (r.waitedBy a = true → r'.heldBy a = true ∨ r'.waitedBy a = true)
  drained : ∀ e r, d.entry e = some r → d'.entry e = none → r.lifecycle ≠ .live
  boot : d'.boot = d.boot
  config : d'.config = d.config
  tickPhase : d'.tickPhase = d.tickPhase
  tickPeriod : d'.tickPeriod = d.tickPeriod
  issued : d'.issued = d.issued
  cmdReset : d'.cmdReset = d.cmdReset
  recorded : d'.recorded = d.recorded
  window : d'.reclaimLeft = if ∃ a, (d'.agent a).state = .rejoining then d.reclaimLeft else none

/-- The device `d'` at the beginning of a warm reset of `d` (R21, R58, R82, R130, R168, R171, R174, R175, Table 60). THE
MODEL'S CHOICE (log 13): the tick phase is 0 and a group keeps its STDONE level from then on. -/
structure WarmBegun (d d' : Device) : Prop where
  generations : ∀ e, (d'.slot e).generation = (d.slot e).generation
  free : ∀ e, d.entry e = none → d'.entry e = none
  records : ∀ e r, d.entry e = some r →
    d'.entry e = some { r with
      queue := []
      holders := r.holders.map fun h => { h with asked := false, grace := none }
      occupancy := if r.isSwitching then .idle else r.occupancy }
  groups : ∀ g, d'.group g =
    if (d.group g).state = .switching then
      { d.group g with state := .settled, settleKnown := false, phase := none }
    else { d.group g with phase := none }
  notices : ∀ e a, d'.notice e a = {}
  channels : ∀ a, d'.chan a = { state := .reset }
  agents : d'.agents = d.agents
  boot : d'.boot = d.boot
  ticket : d'.ticket = d.ticket
  config : d'.config = d.config
  tickPhase : d'.tickPhase = 0
  issued : d'.issued = []
  recorded : ∃ v, d'.recorded = some v ∧ ∀ a, tget v a = (d.agent a).state
  reclaimLeft : d'.reclaimLeft = none
  control : d'.controlHolder = none

/-- The roster state of agent `a` after the release of a warm reset with `p` on the inputs (R140, R176); `was` is the state
recorded at the beginning. -/
def stateReleased (d : Device) (p : Pins) (a : Agent) (was : Roster) : Roster :=
  if was = .fenced then .fenced
  else if was = .rejoining ∨ was = .online ∧ 1 ≤ d.holdCount a then
    if d.config.window = 0 ∨ tget p.agrstLow a = true then .offline else .rejoining
  else .offline

/-- The device `d'` after the release of a warm reset of `d`, with `p` on the inputs and `was` recorded at the beginning
(R43, R56, R130, R171, R176). -/
structure Released (p : Pins) (was : Agent → Roster) (d d' : Device) : Prop where
  agents : ∀ a, d'.agent a = { d.agent a with state := stateReleased d p a (was a) }
  channels : ∀ a, d'.chan a = { state := if tget p.agrstLow a then .reset else .ready }
  sampled : ∀ g, (d'.group g).stdone = tget p.stdoneHigh g
  window : d'.reclaimLeft =
    if ∃ a, stateReleased d p a (was a) = .rejoining then some d.config.window else none
  kept : ∀ e r, d.entry e = some r → r.lifecycle = .live →
    (∀ a, d.concerns e a = true → stateReleased d p a (was a) = .rejoining) → d'.slot e = d.slot e
  departed : ∀ a, was a = .rejoining ∨ was a = .online ∧ 1 ≤ d.holdCount a → stateReleased d p a (was a) = .offline →
    ∀ e r, d'.entry e = some r → r.heldBy a = false ∧ r.waitedBy a = false
  drained : ∀ e r, d.entry e = some r → r.lifecycle ≠ .live → r.holders = [] → r.isSwitching = false →
    d'.entry e = none
  expiries : ∀ x, x ∈ d'.issued ↔ x ∈ d.issued ∨
    ∃ e r h, d'.entry e = some r ∧ h ∈ r.holders ∧ h.remaining = .ms 0 ∧ x = .term e h.agent h.ticket
  tickPhase : d'.tickPhase = 0
  tickPeriod : d'.tickPeriod = d.config.tickDiv
  recorded : d'.recorded = none
  cmdReset : d'.cmdReset = d.cmdReset
  boot : d'.boot = d.boot
  config : d'.config = d.config

/-! ### Conditions of a safe run -/

/-- No ticket is 0: neither the counter nor any ticket issued (R24). -/
structure Device.TicketsNonzero (d : Device) : Prop where
  counter : d.ticket ≠ 0
  issued : ∀ e r, d.entry e = some r → ∀ h ∈ r.holders, h.ticket ≠ 0

/-- Every slot has a generation from 1 to 255 (R7). -/
def Device.GenerationsNonzero (d : Device) : Prop := ∀ e, (d.slot e).generation ≠ 0

/-- No two non-FREE slots carry the same key (R6). -/
def Device.KeysDistinct (d : Device) : Prop :=
  ∀ e e' r r', d.entry e = some r → d.entry e' = some r' → r.key = r'.key → e = e'

/-- The wait cells in use do not exceed the pool (R58). -/
def Device.PoolBounded (d : Device) : Prop := d.cellsInUse ≤ 64

/-- The cells behind the front UPGRADE cell, if there is one. -/
def behindUpgrade : List WaitCell → List WaitCell
  | [] => []
  | c :: q => if c.mode = .upgrade then q else c :: q

/-- A queue in the order of R61: an UPGRADE cell only at the front, and behind it priorities that do not
increase from head to tail. -/
structure QueueOrdered (q : List WaitCell) : Prop where
  upgradeFirst : ∀ c ∈ behindUpgrade q, c.mode ≠ .upgrade
  descending : (behindUpgrade q).Pairwise fun a b => b.priority ≤ a.priority

/-- Every wait queue is in the order of R61. -/
def Device.QueuesOrdered (d : Device) : Prop := ∀ e r, d.entry e = some r → QueueOrdered r.queue

/-- The record of entry 0 has the properties that R5 fixes. -/
structure Record.IsControlLease (r : Record) : Prop where
  key : r.key = 0
  origin : r.origin = .defined
  sharing : r.sharing = .exclusiveOnly
  policy : r.policy ≠ .none
  defaultTerm : r.defaultTerm = .unbounded
  maxTerm : r.maxTerm = .unbounded
  unboundedAllowed : r.unboundedAllowed = true
  group : r.group = none
  lifecycle : r.lifecycle = .live
  occupancy : r.occupancy = .idle ∨ r.occupancy = .heldX
  holders : ∀ h ∈ r.holders, h.mode = .exclusive
  queue : ∀ c ∈ r.queue, c.mode = .exclusive

/-- Entry 0 is the control lease, with handle 0:1, and no group is bound to it (R5). -/
structure Device.ControlLeaseKept (d : Device) : Prop where
  entry : ∃ r, d.entry 0 = some r ∧ r.IsControlLease
  generation : (d.slot 0).generation = 1
  unsteered : ∀ g b, (d.group g).binding = some b → b.entry ≠ 0

/-- A notice cell holds a generation exactly while it has a pending kind (R167). -/
def Device.NoticesStamped (d : Device) : Prop :=
  ∀ e a, (d.notice e a).generation.isSome = true ↔ (d.notice e a).kinds ≠ {}

/-- The names the part gives out are sound: tickets, generations, keys and the generations in notice cells. -/
structure Device.NamesSound (d : Device) : Prop where
  tickets : d.TicketsNonzero
  generations : d.GenerationsNonzero
  keys : d.KeysDistinct
  notices : d.NoticesStamped

/-- The holders, the queue, the sharing class and the occupancy of a record agree (R2, R4, R62, R65). -/
structure Record.Agrees (r : Record) : Prop where
  holdersOnce : (r.holders.map (·.agent)).Nodup
  queueOnce : (r.queue.map (·.agent)).Nodup
  claims : ∀ c ∈ r.queue, (r.heldBy c.agent = true ↔ c.mode = .upgrade)
  targets : ∀ c ∈ r.queue, c.target = true → c.mode = .exclusive
  exclusive : r.sharing = .exclusiveOnly →
    (∀ h ∈ r.holders, h.mode = .exclusive) ∧ ∀ c ∈ r.queue, c.mode = .exclusive
  steered : r.group ≠ none → r.sharing = .exclusiveOnly
  occupancy : match r.occupancy with
    | .idle | .switching _ | .faulted => r.holders = []
    | .heldX => ∃ h, r.holders = [h] ∧ h.mode = .exclusive
    | .heldS => r.holders ≠ [] ∧ ∀ h ∈ r.holders, h.mode = .shared

/-- The records agree within themselves, and with the steering groups bound to them (R113, R114, R118). -/
structure Device.Consistent (d : Device) : Prop where
  records : ∀ e r, d.entry e = some r → r.Agrees
  bound : ∀ e g, (∃ r, d.entry e = some r ∧ r.group = some g) ↔
    ∃ b, (d.group g).binding = some b ∧ b.entry = e
  unbound : ∀ g, (d.group g).binding = none ↔ (d.group g).state = .unbound
  together : ∀ e r g, d.entry e = some r → r.group = some g →
    (r.isSwitching = true ↔ (d.group g).state = .switching) ∧
    (r.occupancy = .faulted ↔ (d.group g).state = .faulted)
  unsteered : ∀ e r, d.entry e = some r → r.group = none → r.isSwitching = false ∧ r.occupancy ≠ .faulted
  selects : ∀ e r g h, d.entry e = some r → r.group = some g → h ∈ r.holders →
    (d.group g).select = .agent h.agent
  driven : ∀ e r g b t n, d.entry e = some r → r.group = some g → (d.group g).binding = some b →
    r.occupancy = .switching t → (d.group g).phase = some (.requesting n) →
    (d.group g).select = match t with | .agent a => .agent a | .home => b.home

/-- The head of the queue cannot be granted by what holds the entry (R71 to R73, R75). -/
def Record.HeadBlocked (r : Record) : Prop :=
  ∀ c q, r.queue = c :: q →
    match c.mode with
    | .upgrade => r.holders.map (·.agent) ≠ [c.agent]
    | .exclusive => r.holders ≠ []
    | .shared => ∃ h ∈ r.holders, h.mode = .exclusive

/-- No LIVE entry that is neither SWITCHING nor FAULTED has a grantable head (R75), and no RETIRING entry has a queue
(R103). -/
structure Device.QueuesServed (d : Device) : Prop where
  blocked : ∀ e r, d.entry e = some r → r.decidable = true → r.HeadBlocked
  retiring : ∀ e r, d.entry e = some r → r.lifecycle ≠ .live → r.queue = []

/-- The counts of every agent are within its quotas (R134). -/
structure Device.QuotasKept (d : Device) : Prop where
  holds : ∀ a, d.holdCount a + d.nonUpgradeWaits a ≤ (d.agent a).holdQuota
  waits : ∀ a, d.waitCount a ≤ (d.agent a).waitQuota

/-- The roster agrees with the records and the notices (R133), with what a held warm reset recorded (R174), and with the
reclaim window (R177). -/
structure Device.RosterSound (d : Device) : Prop where
  absent : ∀ a, (d.agent a).state = .offline ∨ (d.agent a).state = .fenced →
    ∀ e r, d.entry e = some r → r.heldBy a = false
  waitless : ∀ a, (d.agent a).state ≠ .online → ∀ e r, d.entry e = some r → r.waitedBy a = false
  untold : ∀ a, (d.agent a).state ≠ .online → ∀ e, d.notice e a = {}
  recorded : ∀ v, d.recorded = some v →
    (∀ a, tget v a = (d.agent a).state) ∧ d.reclaimLeft = none ∧ d.issued = [] ∧
    (∀ e r, d.entry e = some r → r.queue = []) ∧ ∀ e a, d.notice e a = {}
  window : d.recorded = none → (d.reclaimLeft.isSome = true ↔ ∃ a, (d.agent a).state = .rejoining)

/-- An IN_FLIGHT channel has latched the REQUEST whose flagged cell its entry is switching for (R121, R122), and its agent
is ONLINE. -/
structure Device.FlightSound (d : Device) (a : Agent) : Prop where
  online : (d.agent a).state = .online
  complete : (d.chan a).complete = false
  target : ∃ p e r c, (d.chan a).latched = some ⟨.request, p⟩ ∧ d.lookup p.handle = .ok (e, r) ∧
    r.occupancy = .switching (.agent a) ∧ r.cell a = some c ∧ c.target = true ∧ c.deadline = none

/-- The channels agree with the inputs, with the warm reset held and with the switches in flight (R121, R141, R171, R174,
R175). -/
structure State.ChannelsSound (s : State) : Prop where
  held : ∀ d, s.dev = some d → (s.held = true ↔ d.recorded ≠ none)
  reset : ∀ d, s.dev = some d → ∀ a,
    ((d.chan a).state = .reset ↔ s.held = true ∨ tget s.pins.agrstLow a = true)
  settled : ∀ d, s.dev = some d → ∀ a, (d.chan a).state ≠ .executing
  latched : ∀ d, s.dev = some d → ∀ a, (d.chan a).state ≠ .inFlight → (d.chan a).latched = none
  flight : ∀ d, s.dev = some d → ∀ a, (d.chan a).state = .inFlight → d.FlightSound a

/-- A condition on the device, while its retention supply is present. -/
def State.Holds (s : State) (P : Device → Prop) : Prop := ∀ d, s.dev = some d → P d

/-- A safe state: all the conditions above hold. A run is safe when every state of it is. -/
structure State.Safe (s : State) : Prop where
  names : s.Holds Device.NamesSound
  pool : s.Holds Device.PoolBounded
  queues : s.Holds Device.QueuesOrdered
  records : s.Holds Device.Consistent
  control : s.Holds Device.ControlLeaseKept
  served : s.Holds Device.QueuesServed
  quotas : s.Holds Device.QuotasKept
  roster : s.Holds Device.RosterSound
  channels : s.ChannelsSound

end Sys2Proof.Machine
end

