-- ==== Sys2Proof/WellFormed.lean ====
section
/-!
DEFINITION. Which terms of `Instr` are steps of the part as the opcode table divides them: the bytes that a link row
carries are those of a transaction of that row.
-/
namespace Sys2Proof

/-- The other bytes of a command's transaction write no other command's trigger (R160). -/
def onlyTrigger (c : Cmd) (w : Writes) : Bool :=
  (triggersIn w).all (· = c)

/-- The transaction writes no trigger (R182). -/
def noTrigger (w : Writes) : Bool :=
  (triggersIn w).isEmpty

/-- The transaction writes neither ABORT nor ACK (R182). -/
def noControl (w : Writes) : Bool :=
  !writesAbort w && !writesAck w

/-- A well-formed step: the row says what its transaction is. -/
def Instr.wf : Instr → Bool
  | .attach _ w => onlyTrigger .attach w
  | .detach _ w => onlyTrigger .detach w
  | .rejoin _ w => onlyTrigger .rejoin w
  | .openEntry _ w => onlyTrigger .openEntry w
  | .query _ w => onlyTrigger .query w
  | .request _ w => onlyTrigger .request w
  | .release _ w => onlyTrigger .release w
  | .renew _ w => onlyTrigger .renew w
  | .downgrade _ w => onlyTrigger .downgrade w
  | .cancel _ w => onlyTrigger .cancel w
  | .check _ w => onlyTrigger .check w
  | .takeNotice _ w => onlyTrigger .takeNotice w
  | .retire _ w => onlyTrigger .retire w
  | .define _ w => onlyTrigger .define w
  | .amend _ w => onlyTrigger .amend w
  | .forceRelease _ w => onlyTrigger .forceRelease w
  | .fence _ w => onlyTrigger .fence w
  | .unfence _ w => onlyTrigger .unfence w
  | .setAgent _ w => onlyTrigger .setAgent w
  | .configure _ w => onlyTrigger .configure w
  | .clearFault _ w => onlyTrigger .clearFault w
  | .warmReset _ w => onlyTrigger .warmReset w
  | .multipleTriggers _ w => decide (2 ≤ (triggersIn w).length)
  | .ack _ w => noTrigger w && !writesAbort w
  | .abort _ w => noTrigger w
  | .attnenWrite _ _ w => noTrigger w && noControl w
  | .viewpageWrite _ _ w => noTrigger w && noControl w && (lastWrite w attnenAddr).isNone
  | .registerWrite _ start data =>
    let w := spread start data
    noTrigger w && noControl w && (lastWrite w attnenAddr).isNone && (lastWrite w viewpageAddr).isNone
  | .agrstFall _ | .agrstRise _ | .settle _ | .stdoneFall _ | .warmResetBegin _
  | .warmResetRelease _ | .coldReset _ | .termTick | .termExpiry _ _ _ | .waitLimitExpiry _ _
  | .graceExpiry _ _ _ | .switchTimeout _ | .windowExpiry | .stdoneRise _
  | .retentionSupplyLoss => true

end Sys2Proof
end

