-- ==== Sys2Proof/Certificates/Slice0/Obligations.lean ====
section
/-!
DEFINITION. The statements for the provers, from the numbered rules of the manual. The words `Starts`, `answered`,
`OnlyEntry`, `Departed`, `WarmBegun` and `Released` are those of Sys2Proof/Safety.lean. In every statement about a command,
`d₁` is the device after the other bytes of the transaction, and the parameter registers are read from it.
-/
open Sys2Proof Sys2Proof.Machine

/-! ### The step and the link -/

/-- THE MODEL'S CHOICE (log 16): a step takes the command at the front of the queue and runs it on the state with the queue's rest. -/
def Obligations.StepTakesTheFrontCommand : Prop :=
  ∀ (s : State) (c : Instr) (rest : List Instr), s.pending = c :: rest →
    step s = exec c { s with pending := rest }

/-- THE MODEL'S CHOICE (log 3): on an empty queue the part brings the end of a WARM RESET command's cause (R173), then the
expiry issued first (R45), then the tick when the period's divisor has elapsed (R43), each as its row; a live part with none of
them counts one REFCLK period; a part without its retention supply, or held by a level on the board, idles. -/
def Obligations.EmptyQueueBringsTheOwnEvents : Prop :=
  ∀ s : State, s.pending = [] →
    (∀ d, s.dev = some d → d.cmdReset = true → step s = exec (.warmResetRelease .command) s) ∧
    (∀ d x rest, Live s d → d.issued = x :: rest →
      step s = exec (match x with
        | .term e a t => .termExpiry e a t
        | .wait e a => .waitLimitExpiry e a
        | .grace e a t => .graceExpiry e a t
        | .switch g => .switchTimeout g
        | .window => .windowExpiry) s) ∧
    (∀ d, Live s d → d.issued = [] →
      (d.tickPeriod ≤ d.tickPhase + 1 → step s = exec .termTick s) ∧
      (d.tickPhase + 1 < d.tickPeriod → step s = .next (s.withDev { d with tickPhase := d.tickPhase + 1 }))) ∧
    (s.dev = none ∨ (s.held = true ∧ ∃ d, s.dev = some d ∧ d.cmdReset = false) → step s = .next s)

/-- The row that a write transaction decodes to is well formed, and acts as the transaction does (R160, R181, R182). -/
def Obligations.DecodedRowActsAsItsTransaction : Prop :=
  ∀ (ch : Agent) (start : RegAddr) (data : List Byte),
    (decodeWrite ch start data).wf = true ∧
    ∀ s : State, exec (decodeWrite ch start data) s = s.onLive (linkWrite ch (spread start data))

/-- Bits of a transaction: the address byte, with bit 7 set for a read, then data bytes, most significant bit first; a byte cut
short is discarded, and a transaction with no complete address byte has no effect (R181). -/
def Obligations.LinkBitsSpellATransaction : Prop :=
  (∀ (a : RegAddr) (data : List Byte) (cut : List Bool), cut.length < 8 →
    decodeLink (msbFirst (a.setWidth 8) ++ data.flatMap msbFirst ++ cut) = .write a data ∧
    decodeLink (msbFirst (0x80 ||| a.setWidth 8) ++ data.flatMap msbFirst ++ cut) = .read a data.length) ∧
  ∀ cut : List Bool, cut.length < 8 → decodeLink cut = .nothing

/-- A REGISTER_WRITE on a listening channel leaves in every parameter register byte, 00h to 30h, the last byte written to it, or
what it held, and changes nothing else. A read of `n` bytes shows the bytes of the block one after another, 00h after 7Fh: the parameter
registers; the result registers of Table 63, an absent field as 00h with its PRESENT bit clear; the window; STATUS, ATTNEN and VIEWPAGE; and
00h at CONTROL, the triggers and the unassigned addresses. THE MODEL'S CHOICE (log 26): STATUS bits 5 to 7 read 0 (R159, R181 to R184,
Tables 63 to 66). -/
def Obligations.RegisterWriteSetsTheParameters : Prop :=
  (∀ (s : State) (d : Device) (ch : Agent) (start : RegAddr) (data : List Byte),
    Live s d → (d.chan ch).state ≠ .reset → (Instr.registerWrite ch start data).wf = true →
    ∃ p : Params,
      exec (.registerWrite ch start data) s =
        .next (s.withDev (d.setChan ch { d.chan ch with params := p })) ∧
      ∀ a : RegAddr, a.toNat ≤ 0x30 →
        (d.setChan ch { d.chan ch with params := p }).readRegister ch a =
          (lastWrite (spread start data) a).getD (d.readRegister ch a)) ∧
  (∀ (s : State) (d : Device) (ch : Agent) (start : RegAddr) (n : Nat),
    Live s d → (d.chan ch).state ≠ .reset →
    s.linkRead ch start n = some ((List.range n).map fun k => d.readRegister ch (start + BitVec.ofNat 7 k))) ∧
  ∀ (d : Device) (ch : Agent),
    let c := d.chan ch
    let p := c.params
    let r := c.results
    let byte (a : RegAddr) : Byte := d.readRegister ch a
    let bytes (a : RegAddr) (n : Nat) : List Byte := (List.range n).map fun k => byte (a + BitVec.ofNat 7 k)
    bytes 0x00 49 =
      bytesOf p.handle ++ bytesOf p.key ++ bytesOf p.ticket ++ bytesOf p.term ++ bytesOf p.waitlim ++
      [p.mode, p.prio, p.agent, p.group, p.options, p.sharing, p.policy, p.home] ++ bytesOf p.grace ++
      bytesOf p.defterm ++ bytesOf p.maxterm ++ [p.parkpol, p.swtimeout, p.holdq, p.waitq, p.cap, p.plainpol] ++
      bytesOf p.tickdiv ++ bytesOf p.reclaim ++ bytesOf p.plaindef ++ bytesOf p.plainmax ++ [p.defswto] ∧
    [ResultCode.none, .ok, .granted, .queued, .current, .stale, .unavailable, .aborted, .badParam, .notAttached
      , .staleHandle, .noEntry, .alreadyExists, .tableFull, .entryBusy, .retiring, .modeConflict, .alreadyHeld
      , .alreadyWaiting, .notPermitted, .notHolder, .notWaiting, .upgradeConflict, .holdQuota, .waitQuota, .queueFull
      , .steerFault, .inUse, .noNotice, .wrongState][(byte 0x38).toNat]? = some r.result ∧
    (c.completed = none → byte 0x39 = 0) ∧
    (∀ k, c.completed = some k → ∃ n, (byte 0x39).toNat = 0x64 + n ∧
      [Cmd.attach, .detach, .rejoin, .openEntry, .query, .request, .release, .renew, .downgrade, .cancel, .check
        , .takeNotice, .retire, .define, .amend, .forceRelease, .fence, .unfence, .setAgent, .configure, .clearFault
        , .warmReset][n]? = some k) ∧
    (∃ v : BitVec 16, bytes 0x3A 2 = bytesOf v ∧ ∀ n : Nat, v.getLsbD n =
      [r.handle.isSome, r.priority.isSome, r.mode.isSome, r.ticket.isSome, r.term.isSome, r.agent.isSome
        , r.created.isSome, r.kinds.isSome, r.relation.isSome, r.remaining.isSome, r.count.isSome
        , decide (r.window ≠ .absent)].getD n false) ∧
    bytes 0x3C 2 = bytesOf (r.handle.getD 0) ∧
    byte 0x3E = (match r.priority with | some q => BitVec.ofNat 8 q.val | none => 0) ∧
    byte 0x3F = (match r.mode with | some .shared => 1 | some .exclusive => 2 | none => 0) ∧
    bytes 0x40 4 = bytesOf (r.ticket.getD 0) ∧
    bytes 0x44 4 = bytesOf (match r.term with | some (.ms n) => BitVec.ofNat 32 n | some .unbounded => 0xFFFFFFFF | none => 0) ∧
    byte 0x48 = (match r.agent with | some a => BitVec.ofNat 8 a.val | none => 0) ∧
    byte 0x49 = (if r.created = some true then 1 else 0) ∧
    (∀ n : Nat, (byte 0x4A).getLsbD n =
      let k := r.kinds.getD {}
      [k.granted, k.yieldAsked, k.revoked, k.expired, k.waitEnded, k.retiring, k.steerFault, k.retireDone].getD n false) ∧
    byte 0x4B = (match r.relation with
      | some .exclusiveHolder => 1 | some .sharedHolder => 2 | some .waiting => 3 | some .none | none => 0) ∧
    byte 0x4C = BitVec.ofNat 8 (r.remaining.getD 0) ∧
    byte 0x4D = BitVec.ofNat 8 (r.count.getD 0) ∧
    bytes 0x50 16 =
      (match r.window with
       | .absent => List.replicate 16 0
       | .attachInfo hold wait cap create boot =>
         [BitVec.ofNat 8 hold, BitVec.ofNat 8 wait, BitVec.ofNat 8 cap.val, if create then 1 else 0, BitVec.ofNat 8 boot.val] ++
         List.replicate 11 0
       | .counts holds nonUpgrade waits =>
         [BitVec.ofNat 8 holds, BitVec.ofNat 8 nonUpgrade, BitVec.ofNat 8 waits] ++ List.replicate 13 0
       | .values x =>
         bytesOf (BitVec.ofNat 16 x.tickDiv) ++ bytesOf (BitVec.ofNat 16 x.window) ++
         bytesOf (BitVec.ofNat 16 x.plainDef) ++ bytesOf (BitVec.ofNat 16 x.plainMax) ++
         [if x.plainAsk then 1 else 0, BitVec.ofNat 8 x.swTimeout] ++ List.replicate 6 0
       | .view v => v.page c.viewPage.toNat) ∧
    (∀ n : Nat, (byte 0x60).getLsbD n =
      [decide (c.state = .executing), decide (c.state = .inFlight), c.complete, c.overrun
        , decide (∃ e, (d.notice e ch).kinds ≠ {})].getD n false) ∧
    byte 0x62 = c.attnen ∧ byte 0x63 = c.viewPage ∧
    ∀ a : RegAddr, (0x31 ≤ a.toNat ∧ a.toNat ≤ 0x37) ∨ a = 0x4E ∨ a = 0x4F ∨ a = 0x61 ∨ 0x64 ≤ a.toNat → byte a = 0

/-- Writes of ATTNEN and of VIEWPAGE take the value written, in READY and IN_FLIGHT alike, beside the parameter registers of the
same transaction; ATTN# follows COMPLETE, the pending notices and the enables (R159, R166, R182, R184). -/
def Obligations.AttentionAndPageTakeTheValue : Prop :=
  (∀ (s : State) (d : Device) (ch : Agent) (v : Byte) (w : Writes),
    Live s d → (d.chan ch).state ≠ .reset →
    ((Instr.attnenWrite ch v w).wf = true →
      exec (.attnenWrite ch v w) s = .next (s.withDev (d.setChan ch { d.chan ch with
        params := (d.chan ch).params.writeAll w
        attnen := v
        viewPage := (lastWrite w viewpageAddr).getD (d.chan ch).viewPage }))) ∧
    ((Instr.viewpageWrite ch v w).wf = true →
      exec (.viewpageWrite ch v w) s = .next (s.withDev (d.setChan ch { d.chan ch with
        params := (d.chan ch).params.writeAll w
        viewPage := v })))) ∧
  ∀ (s : State) (d : Device) (a : Agent), s.dev = some d →
    (s.attnPin a = some false ↔
      ((d.chan a).complete = true ∧ (d.chan a).attnen.getLsbD 0 = true) ∨
      ((∃ e, (d.notice e a).kinds ≠ {}) ∧ (d.chan a).attnen.getLsbD 1 = true))

/-- ACK on a READY channel clears COMPLETE alone; in any other state it has no effect. The registers of its transaction are
written (R164, R182). -/
def Obligations.AckClearsComplete : Prop :=
  ∀ (s : State) (d : Device) (ch : Agent) (w : Writes),
    Live s d → (d.chan ch).state ≠ .reset → (Instr.ack ch w).wf = true →
    exec (.ack ch w) s = .next (s.withDev (d.setChan ch { (d.chan ch).writeRegisters w with
      complete := if (d.chan ch).state = .ready then false else (d.chan ch).complete }))

/-- ABORT ends an IN_FLIGHT REQUEST: it completes ABORTED with its clamped priority, its cell leaves the queue, and the switch goes
on; an ACK of the same transaction then clears COMPLETE. In any other state ABORT is ignored (R160, R165). -/
def Obligations.AbortEndsTheInFlightRequest : Prop :=
  ∀ (s : State) (d : Device) (ch : Agent) (w : Writes),
    Live s d → (d.chan ch).state ≠ .reset → (Instr.abort ch w).wf = true →
    (∀ l e r c, (d.chan ch).state = .inFlight → (d.chan ch).latched = some l →
      d.lookup l.params.handle = .ok (e, r) → r.isSwitching = true → r.holders = [] → r.cell ch = some c →
      exec (.abort ch w) s = .next (s.withDev ((d.putRecord e (r.withoutCell ch)).setChan ch
        { (d.chan ch).writeRegisters w with
          state := .ready
          latched := none
          completed := some .request
          results := { result := .aborted, priority := some c.priority }
          complete := !writesAck w }))) ∧
    ((d.chan ch).state ≠ .inFlight →
      exec (.abort ch w) s = .next (s.withDev (d.setChan ch { (d.chan ch).writeRegisters w with
        complete :=
          if (d.chan ch).state = .ready ∧ writesAck w = true then false else (d.chan ch).complete })))

/-- A transaction with two or more triggers starts no command: a READY channel completes BAD_PARAM with the completed command
absent, a busy one sets OVERRUN. One trigger on a busy channel is dropped with OVERRUN set (R160, R161). -/
def Obligations.TriggersThatStartNothing : Prop :=
  ∀ (s : State) (d d₁ : Device) (ch : Agent) (w : Writes),
    Live s d → (d.chan ch).state ≠ .reset → d₁ = d.applyWrites ch w →
    ((Instr.multipleTriggers ch w).wf = true → (d₁.chan ch).state = .ready →
      exec (.multipleTriggers ch w) s = .next (s.withDev (d₁.setChan ch { d₁.chan ch with
        latched := none, completed := none, results := { result := .badParam }, complete := true
        overrun := false }))) ∧
    ((d₁.chan ch).state ≠ .ready →
      ((Instr.multipleTriggers ch w).wf = true →
        exec (.multipleTriggers ch w) s =
          .next (s.withDev (d₁.setChan ch { d₁.chan ch with overrun := true }))) ∧
      ∀ c : Cmd, (triggersIn w).all (· = c) = true →
        exec (commandRow c ch w) s =
          .next (s.withDev (d₁.setChan ch { d₁.chan ch with overrun := true })))

/-- Every write on the link of a channel in RESET is ignored and no read is answered; the same holds of every link while a warm
reset is held, and, THE MODEL'S CHOICE (log 5), while the retention supply is absent (R161, R175, R181). -/
def Obligations.LinkIgnoredInReset : Prop :=
  ∀ (s : State) (ch : Agent),
    ((∃ d, s.dev = some d ∧ (d.chan ch).state = .reset) ∨ s.held = true ∨ s.dev = none) →
    (∀ (c : Cmd) (w : Writes), exec (commandRow c ch w) s = .next s) ∧
    (∀ w, exec (.multipleTriggers ch w) s = .next s ∧ exec (.ack ch w) s = .next s ∧
      exec (.abort ch w) s = .next s) ∧
    (∀ v w, exec (.attnenWrite ch v w) s = .next s ∧ exec (.viewpageWrite ch v w) s = .next s) ∧
    (∀ start data, exec (.registerWrite ch start data) s = .next s) ∧
    ∀ start n, s.linkRead ch start n = none

/-! ### Checks that every command passes first -/

/-- From a FENCED agent every command ends NOT_PERMITTED. From an OFFLINE or REJOINING agent every command but ATTACH, REJOIN and
TAKE NOTICE ends NOT_ATTACHED. Neither changes anything but the answer (R162). -/
def Obligations.AttachCheckRefuses : Prop :=
  ∀ (s : State) (d d₁ : Device) (ch : Agent) (c : Cmd) (w : Writes), Starts s d ch c w d₁ →
    ((d₁.agent ch).state = .fenced →
      exec (commandRow c ch w) s = .next (s.withDev (d₁.answered ch c { result := .notPermitted }))) ∧
    ((d₁.agent ch).state = .offline ∨ (d₁.agent ch).state = .rejoining →
      c ≠ .attach → c ≠ .rejoin → c ≠ .takeNotice →
      exec (commandRow c ch w) s = .next (s.withDev (d₁.answered ch c { result := .notAttached })))

/-- A control command from an ONLINE agent that does not hold entry 0 EXCLUSIVE ends NOT_PERMITTED and changes nothing but the
answer (R147, R148). -/
def Obligations.ControlCheckRefuses : Prop :=
  ∀ (s : State) (d d₁ : Device) (ch : Agent) (c : Cmd) (w : Writes), StartsOnline s d ch c w d₁ →
    c ∈ [Cmd.define, .amend, .forceRelease, .fence, .unfence, .setAgent, .configure, .clearFault, .warmReset] →
    (∀ r, d₁.entry 0 = some r → ∀ h ∈ r.holders, h.agent = ch → h.mode ≠ .exclusive) →
    exec (commandRow c ch w) s = .next (s.withDev (d₁.answered ch c { result := .notPermitted }))

/-- The check of a handle, for every command that names an entry by one: a value that is no handle ends the command BAD_PARAM, a
handle to a FREE slot or of another generation STALE_HANDLE, with nothing but the answer changed; any other handle is current, and its
record is the subject (R8). -/
def Obligations.HandleCheck : Prop :=
  ∀ (s : State) (d d₁ : Device) (ch : Agent) (c : Cmd) (w : Writes) (h : Handle),
    (StartsOnline s d ch c w d₁ ∧
        c ∈ [Cmd.query, .request, .release, .renew, .downgrade, .cancel, .check, .retire]) ∨
      (StartsControl s d ch c w d₁ ∧ c ∈ [Cmd.amend, .forceRelease]) →
    h = (d₁.params ch).handle →
    (127 < h.toNat / 256 ∨ h.toNat % 256 = 0 →
      exec (commandRow c ch w) s = .next (s.withDev (d₁.answered ch c { result := .badParam }))) ∧
    ∀ e : EntryIx, h.toNat = e.val * 256 + h.toNat % 256 → h.toNat % 256 ≠ 0 →
      ((d₁.entry e = none ∨ (d₁.slot e).generation.toNat ≠ h.toNat % 256) →
        exec (commandRow c ch w) s = .next (s.withDev (d₁.answered ch c { result := .staleHandle }))) ∧
      ∀ r, d₁.entry e = some r → (d₁.slot e).generation.toNat = h.toNat % 256 → d₁.lookup h = .ok (e, r)

/-! ### The grant decision, the yield logic and the drain -/

/-- The grant decision with a cell at the head that is granted or blocked: an EXCLUSIVE head of an entry without holders, unsteered or
with its group connecting the agent, becomes the holder with the counter's ticket; a front UPGRADE cell of the sole holder converts its
record; a head that is blocked by holders leaves everything as it was (R24, R71, R72, R73, R76, R77). -/
def Obligations.HeadCellGrantedOrBlocked : Prop :=
  ∀ (d : Device) (e : EntryIx) (r : Record) (c : WaitCell) (q : List WaitCell),
    d.entry e = some r → r.decidable = true → r.queue = c :: q →
    (c.mode = .exclusive → r.holders = [] →
      (r.group = none ∨ ∃ g, r.group = some g ∧ (d.group g).select = .agent c.agent ∧ (d.group g).settleKnown = true) →
      d.grantDecision e = (({ d with ticket := if d.ticket = 0xFFFFFFFF then 1 else d.ticket + 1 } : Device).putRecord e
        { r with
          queue := q.filter fun x => x.agent ≠ c.agent
          holders := [{ agent := c.agent, mode := .exclusive, ticket := d.ticket, priority := c.priority
                        remaining := termGranted r c.term, asked := false, grace := none }]
          occupancy := .heldX }).post e c.agent .granted) ∧
    (∀ h, c.mode = .upgrade → r.holders = [h] → h.agent = c.agent →
      d.grantDecision e = (({ d with ticket := if d.ticket = 0xFFFFFFFF then 1 else d.ticket + 1 } : Device).putRecord e
        { r with
          queue := q.filter fun x => x.agent ≠ c.agent
          holders := [{ h with mode := .exclusive, ticket := d.ticket, priority := c.priority
                               remaining := termGranted r c.term, asked := false, grace := none }]
          occupancy := .heldX }).post e c.agent .granted) ∧
    ((c.mode = .upgrade ∧ r.holders.map (·.agent) ≠ [c.agent]) ∨ (c.mode = .exclusive ∧ r.holders ≠ []) ∨
        (c.mode = .shared ∧ ∃ h ∈ r.holders, h.mode = .exclusive) →
      d.grantDecision e = d)

/-- The grant decision with a SHARED head and no EXCLUSIVE holder grants every SHARED cell ahead of the first other cell, in queue order,
with tickets taken one after another, head first; each ONLINE agent granted has GRANTED posted, and nothing else of the device changes
(R24, R25, R73, R76, R77). -/
def Obligations.SharedBatchGrantedInOrder : Prop :=
  ∀ (d : Device) (e : EntryIx) (r : Record) (c : WaitCell) (q : List WaitCell),
    d.entry e = some r → r.decidable = true → r.queue = c :: q → c.mode = .shared →
    (∀ h ∈ r.holders, h.mode = .shared) → (r.queue.map (·.agent)).Nodup →
    let batch := r.queue.takeWhile fun x => x.mode = .shared
    let d' := d.grantDecision e
    d'.entry e = some { r with
      queue := r.queue.dropWhile fun x => x.mode = .shared
      holders := r.holders ++ batch.zipIdx.map fun x =>
        { agent := x.1.agent, mode := .shared, ticket := nextTicket^[x.2] d.ticket, priority := x.1.priority
          remaining := termGranted r x.1.term, asked := false, grace := none }
      occupancy := .heldS } ∧
    d'.ticket = nextTicket^[batch.length] d.ticket ∧
    (∀ a, d'.notice e a =
      if a ∈ batch.map (·.agent) ∧ (d.agent a).state = .online then
        (d.notice e a).add .granted (d.slot e).generation
      else d.notice e a) ∧
    d'.groups = d.groups ∧ OnlyEntry e d d'

/-- A switch is started by the grant decision toward the agent of an EXCLUSIVE head that the group does not connect, or to home on an
empty queue under park policy HOME off home: entry and group become SWITCHING; with STDONE low the target value is driven, settle known
becomes no and the timeout starts, with STDONE high the switch waits in phase DEFERRED. No ticket is taken (R72, R74, R117, R118). -/
def Obligations.GrantDecisionStartsASwitch : Prop :=
  ∀ (d : Device) (e : EntryIx) (r : Record) (g : GroupIx) (b : Binding) (t : SwitchTarget),
    d.entry e = some r → r.decidable = true → r.holders = [] → r.group = some g → (d.group g).binding = some b →
    ((∃ c q, r.queue = c :: q ∧ c.mode = .exclusive ∧ t = .agent c.agent ∧
        ¬ ((d.group g).select = .agent c.agent ∧ (d.group g).settleKnown = true)) ∨
      (r.queue = [] ∧ t = .home ∧ b.parkPolicy = .home ∧ (d.group g).select ≠ b.home)) →
    d.grantDecision e =
      (d.putRecord e { r with
        occupancy := .switching t
        queue := r.queue.map fun x => if t = .agent x.agent then { x with target := true } else x }).setGroup g
      (if (d.group g).stdone = true then { d.group g with state := .switching, phase := some .deferred }
       else { d.group g with
         state := .switching, settleKnown := false, phase := some (.requesting b.timeout)
         select := match t with | .agent a => .agent a | .home => b.home })

/-- The grant decision of an unsteered entry without holders and with an empty queue: entry 0 is granted to the boot agent, EXCLUSIVE at
priority 3 with an UNBOUNDED term, when that agent is ONLINE and below its hold quota; otherwise nothing changes (R74, R134, R151). -/
def Obligations.ControlLeaseGoesToTheBootAgent : Prop :=
  ∀ (d : Device) (e : EntryIx) (r : Record),
    d.entry e = some r → r.decidable = true → r.group = none → r.holders = [] → r.queue = [] →
    (e = 0 → (d.agent d.boot).state = .online →
      d.holdCount d.boot + d.nonUpgradeWaits d.boot < (d.agent d.boot).holdQuota →
      d.grantDecision e = (({ d with ticket := if d.ticket = 0xFFFFFFFF then 1 else d.ticket + 1 } : Device).putRecord e
        { r with
          holders := [{ agent := d.boot, mode := .exclusive, ticket := d.ticket, priority := 3
                        remaining := .unbounded, asked := false, grace := none }]
          occupancy := .heldX }).post e d.boot .granted) ∧
    ((e ≠ 0 ∨ (d.agent d.boot).state ≠ .online ∨
        (d.agent d.boot).holdQuota ≤ d.holdCount d.boot + d.nonUpgradeWaits d.boot) →
      d.grantDecision e = d)

/-- The grant decision is a single pass that leaves nothing to grant: run again at once it changes nothing. The queue names no agent twice
(R62, R75). -/
def Obligations.GrantDecisionIsOnePass : Prop :=
  ∀ (d : Device) (e : EntryIx) (r : Record), d.entry e = some r → (r.queue.map (·.agent)).Nodup →
    (d.grantDecision e).grantDecision e = d.grantDecision e

/-- An evaluation asks each holder of an ONLINE agent that is below the demand of other agents' cells and not yet asked, with YIELD_ASKED
posted and the full grace under FORCE; it withdraws every ask that no demand supports, with a pending YIELD_ASKED removed; it leaves every
other holder as it was, and changes nothing but flags, graces and those notices (R83 to R88). -/
def Obligations.EvaluationAsksAndWithdraws : Prop :=
  ∀ (d : Device) (e : EntryIx) (r : Record), d.entry e = some r →
    (d.evaluate e).entry e = some { r with holders := r.holders.map (evaluated d r) } ∧
    ((r.holders.map (·.agent)).Nodup → ∀ h ∈ r.holders,
      (d.evaluate e).notice e h.agent =
        if h.asked = false ∧ (evaluated d r h).asked = true then
          (d.notice e h.agent).add .yieldAsked (d.slot e).generation
        else if h.asked = true ∧ (evaluated d r h).asked = false then (d.notice e h.agent).drop .yieldAsked
        else d.notice e h.agent) ∧
    (∀ a, a ∉ r.holders.map (·.agent) → (d.evaluate e).notice e a = d.notice e a) ∧
    (d.evaluate e).ticket = d.ticket ∧ (d.evaluate e).groups = d.groups ∧ OnlyEntry e d (d.evaluate e)

/-- A RETIRING entry with no holders and no switch in flight is drained: the slot is FREE with the next generation, 255 going to 1; its
group is UNBOUND and keeps its select; every notice of the slot but RETIRE_DONE is lost, and RETIRE_DONE goes to an ONLINE requester with the
retired generation. With a holder or a switch nothing happens (R7, R104, R105, R106). -/
def Obligations.DrainFreesTheSlot : Prop :=
  ∀ (d : Device) (e : EntryIx) (r : Record) (q : Agent) (m : RetireMode),
    d.entry e = some r → r.lifecycle = .retiring q m →
    (r.holders = [] → r.isSwitching = false →
      let d' := d.checkDrain e
      let g := (d.slot e).generation
      d'.slot e = { generation := if g = 255 then 1 else g + 1, record := none } ∧
      (∀ x, r.group = some x → d'.group x = { d.group x with state := .unbound, binding := none, phase := none }) ∧
      (∀ a, (d'.notice e a).kinds =
        { retireDone := (d.notice e a).kinds.retireDone || (a = q && (d.agent q).state == .online) }) ∧
      ((d.agent q).state = .online → (d.notice e q).kinds.retireDone = false →
        (d'.notice e q).generation = some g) ∧
      d'.ticket = d.ticket ∧ OnlyEntry e d d') ∧
    (r.holders ≠ [] ∨ r.isSwitching = true → d.checkDrain e = d)

/-! ### Agents -/

/-- ATTACH of an OFFLINE agent makes it ONLINE, and reports its configuration with no grant discarded. For the boot agent the entry 0 is
handed on at the same event, and when it is free that agent is granted it, EXCLUSIVE at priority 3 and UNBOUNDED. ATTACH of an ONLINE agent
ends WRONG_STATE (R135, R151, Table 47). -/
def Obligations.AttachMakesOnline : Prop :=
  ∀ (s : State) (d d₁ : Device) (ch : Agent) (w : Writes), Starts s d ch .attach w d₁ →
    let x := d₁.agent ch
    let on := d₁.setAgent ch { x with state := .online }
    let info : Results :=
      { result := .ok, count := some 0, window := .attachInfo x.holdQuota x.waitQuota x.cap x.create d₁.boot }
    (x.state = .offline → ch ≠ d₁.boot →
      exec (.attach ch w) s = .next (s.withDev (on.answered ch .attach info))) ∧
    (x.state = .offline → ch = d₁.boot →
      exec (.attach ch w) s = .next (s.withDev ((on.handOn 0).answered ch .attach info)) ∧
      ∀ r, d₁.entry 0 = some r → r.decidable = true → r.group = none → r.holders = [] → r.queue = [] →
        d₁.holdCount ch + d₁.nonUpgradeWaits ch < x.holdQuota →
        on.handOn 0 = (({ on with ticket := if d₁.ticket = 0xFFFFFFFF then 1 else d₁.ticket + 1 } : Device).putRecord 0
          { r with
            holders := [{ agent := ch, mode := .exclusive, ticket := d₁.ticket, priority := 3
                          remaining := .unbounded, asked := false, grace := none }]
            occupancy := .heldX }).post 0 ch .granted) ∧
    (x.state = .online →
      exec (.attach ch w) s = .next (s.withDev (d₁.answered ch .attach { result := .wrongState })))

/-- ATTACH of a REJOINING agent is a departure that ends ONLINE: it gives up every kept grant and reports how many. For the boot agent
the entry 0 alone changes after that. Where entry 0 was held by that agent alone, or by nobody, with nobody waiting, it is granted the entry
again, EXCLUSIVE at priority 3 and UNBOUNDED, with GRANTED posted; THE MODEL'S CHOICE (log 10): its ticket is the first of the event. Where others
waited, the first waiter has it; where others held it, they keep it and the waiters wait on (R25, R136, R138, R151). -/
def Obligations.AttachGivesUpKeptGrants : Prop :=
  ∀ (s : State) (d d₁ : Device) (ch : Agent) (w : Writes), Starts s d ch .attach w d₁ →
    let x := d₁.agent ch
    x.state = .rejoining →
    ∃ d₂ d₃ : Device, Departed [ch] .online d₁ d₂ ∧
      exec (.attach ch w) s = .next (s.withDev (d₃.answered ch .attach
        { result := .ok, count := some (d₁.holdCount ch)
          window := .attachInfo x.holdQuota x.waitQuota x.cap x.create d₁.boot })) ∧
      (ch ≠ d₁.boot → d₃ = d₂) ∧
      (ch = d₁.boot → OnlyEntry 0 d₂ d₃ ∧
        ∀ r, d₁.entry 0 = some r → r.decidable = true → r.group = none →
          ((∀ h ∈ r.holders, h.agent = ch) → r.queue = [] → 1 ≤ x.holdQuota →
            d₃.entry 0 = some { r with
              holders := [{ agent := ch, mode := .exclusive, ticket := d₁.ticket, priority := 3
                            remaining := .unbounded, asked := false, grace := none }]
              occupancy := .heldX } ∧
            d₃.notice 0 ch = { kinds := { granted := true }, generation := some (d₁.slot 0).generation }) ∧
          (∀ c q, r.holders ≠ [] → (∀ h ∈ r.holders, h.agent = ch) → r.queue = c :: q →
            (∀ y ∈ r.queue, y.agent ≠ ch ∧ y.mode = .exclusive) →
            (∃ h : Holder, h.kept = (c.agent, .exclusive, d₁.ticket, c.priority, termGranted r c.term) ∧
              d₃.entry 0 = some { r with
                holders := [h], queue := q.filter fun y => y.agent ≠ c.agent, occupancy := .heldX }) ∧
            ((d₁.agent c.agent).state = .online → (d₃.notice 0 c.agent).kinds.granted = true)) ∧
          (r.holders ≠ [] → (∀ h ∈ r.holders, h.agent ≠ ch) → (∀ y ∈ r.queue, y.agent ≠ ch ∧ y.mode = .exclusive) →
            ∃ hs, hs.map Holder.kept = r.holders.map Holder.kept ∧ d₃.entry 0 = some { r with holders := hs }))

/-- DETACH is a departure to OFFLINE. FENCE of an ONLINE or REJOINING agent is a departure to FENCED, of an OFFLINE one a change of state
alone, with the grants released counted; a number above 7 ends BAD_PARAM, the issuer itself NOT_PERMITTED, a FENCED agent WRONG_STATE
(R137, R138, R142). -/
def Obligations.DetachAndFenceDepart : Prop :=
  (∀ (s : State) (d d₁ : Device) (ch : Agent) (w : Writes), StartsOnline s d ch .detach w d₁ →
    ∃ d₂, Departed [ch] .offline d₁ d₂ ∧
      exec (.detach ch w) s = .next (s.withDev (d₂.answered ch .detach { result := .ok }))) ∧
  ∀ (s : State) (d d₁ : Device) (ch : Agent) (w : Writes), StartsControl s d ch .fence w d₁ →
    (7 < (d₁.params ch).agent.toNat →
      exec (.fence ch w) s = .next (s.withDev (d₁.answered ch .fence { result := .badParam }))) ∧
    ∀ x : Agent, (d₁.params ch).agent.toNat = x.val →
      (x = ch → exec (.fence ch w) s = .next (s.withDev (d₁.answered ch .fence { result := .notPermitted }))) ∧
      (x ≠ ch → (d₁.agent x).state = .fenced →
        exec (.fence ch w) s = .next (s.withDev (d₁.answered ch .fence { result := .wrongState }))) ∧
      (x ≠ ch → (d₁.agent x).state = .offline →
        exec (.fence ch w) s = .next (s.withDev ((d₁.setAgent x { d₁.agent x with state := .fenced }).answered ch .fence
          { result := .ok, count := some 0 }))) ∧
      (x ≠ ch → (d₁.agent x).state = .online ∨ (d₁.agent x).state = .rejoining →
        ∃ d₂, Departed [x] .fenced d₁ d₂ ∧
          exec (.fence ch w) s = .next (s.withDev (d₂.answered ch .fence
            { result := .ok, count := some (d₁.holdCount x) })))

/-- The fall of AGRST# puts the channel in RESET, and an ONLINE or REJOINING agent departs to OFFLINE; its rise makes the channel READY
with the values of a reset. THE MODEL'S CHOICE: a level already there is no edge, and a held part notes the level alone (log 7), as does one
without its retention supply (log 5) (R140, R141, R171, R175). -/
def Obligations.AgentResetAndItsEnd : Prop :=
  ∀ (s : State) (a : Agent),
    (tget s.pins.agrstLow a = false →
      let p := { s.pins with agrstLow := tset s.pins.agrstLow a true }
      (∀ d, Live s d →
        ((d.agent a).state = .online ∨ (d.agent a).state = .rejoining →
          ∃ d₂, Departed [a] .offline (d.setChan a { state := .reset }) d₂ ∧
            exec (.agrstFall a) s = .next { s with pins := p, dev := some d₂ }) ∧
        ((d.agent a).state = .offline ∨ (d.agent a).state = .fenced →
          exec (.agrstFall a) s = .next { s with pins := p, dev := some (d.setChan a { state := .reset }) })) ∧
      (s.dev = none ∨ s.held = true → exec (.agrstFall a) s = .next { s with pins := p }) ∧
      exec (.agrstRise a) s = .next s) ∧
    (tget s.pins.agrstLow a = true →
      let p := { s.pins with agrstLow := tset s.pins.agrstLow a false }
      (∀ d, Live s d →
        exec (.agrstRise a) s = .next { s with pins := p, dev := some (d.setChan a { state := .ready }) }) ∧
      (s.dev = none ∨ s.held = true → exec (.agrstRise a) s = .next { s with pins := p }) ∧
      exec (.agrstFall a) s = .next s)

/-- The window expiry, once issued, is taken as the departure of every REJOINING agent to OFFLINE, and ends the window. THE MODEL'S
CHOICE (log 2): not issued, it does not exist and its row changes nothing (R45, R177, R179). -/
def Obligations.WindowExpiryEndsTheWindow : Prop :=
  ∀ (s : State) (d : Device), Live s d →
    (Expiry.window ∈ d.issued → ∃ d₂,
      Departed (allAgents.filter fun a => (d.agent a).state = .rejoining) .offline
        { d with issued := d.issued.erase .window } d₂ ∧
      (∀ a, (d₂.agent a).state ≠ .rejoining) ∧ d₂.reclaimLeft = none ∧
      exec .windowExpiry s = .next (s.withDev d₂)) ∧
    (Expiry.window ∉ d.issued → exec .windowExpiry s = .next s)

/-- REJOIN of a REJOINING agent makes it ONLINE with every kept grant and reports how many; each entry it holds is evaluated, every other one
but the entry 0 of the boot agent stays as it was; a boot agent is granted a free entry 0, and a kept grant on entry 0 stays as it was but for
asks; the window ends with the last REJOINING agent. From OFFLINE or ONLINE it ends WRONG_STATE (R98, R151, R177, R178). -/
def Obligations.RejoinKeepsTheGrants : Prop :=
  ∀ (s : State) (d d₁ : Device) (ch : Agent) (w : Writes), Starts s d ch .rejoin w d₁ →
    let x := d₁.agent ch
    let on := d₁.setAgent ch { x with state := .online }
    (x.state = .offline ∨ x.state = .online →
      exec (.rejoin ch w) s = .next (s.withDev (d₁.answered ch .rejoin { result := .wrongState }))) ∧
    (x.state = .rejoining → ∃ d₂ : Device,
      exec (.rejoin ch w) s = .next (s.withDev (d₂.answered ch .rejoin
        { result := .ok, count := some (d₁.holdCount ch)
          window := .attachInfo x.holdQuota x.waitQuota x.cap x.create d₁.boot })) ∧
      d₂.agents = on.agents ∧ d₂.channels = d₁.channels ∧ d₂.boot = d₁.boot ∧ d₂.config = d₁.config ∧
      d₂.issued = d₁.issued ∧ d₂.tickPhase = d₁.tickPhase ∧ d₂.tickPeriod = d₁.tickPeriod ∧
      d₂.reclaimLeft = (if ∃ a, (on.agent a).state = .rejoining then d₁.reclaimLeft else none) ∧
      (ch ≠ d₁.boot → d₂.ticket = d₁.ticket ∧ d₂.groups = d₁.groups) ∧
      (∀ e, e ≠ 0 ∨ ch ≠ d₁.boot →
        ((∃ r, d₁.entry e = some r ∧ r.heldBy ch = true) →
          d₂.slot e = (on.evaluate e).slot e ∧ ∀ a, d₂.notice e a = (on.evaluate e).notice e a) ∧
        ((∀ r, d₁.entry e = some r → r.heldBy ch = false) →
          d₂.slot e = d₁.slot e ∧ ∀ a, d₂.notice e a = d₁.notice e a)) ∧
      (ch = d₁.boot → ∀ r, d₁.entry 0 = some r → r.decidable = true → r.group = none →
        (r.holders = [] → r.queue = [] → d₁.holdCount ch + d₁.nonUpgradeWaits ch < x.holdQuota →
          d₂.entry 0 = some { r with
            holders := [{ agent := ch, mode := .exclusive, ticket := d₁.ticket, priority := 3
                          remaining := .unbounded, asked := false, grace := none }]
            occupancy := .heldX }) ∧
        ((∀ c ∈ r.queue, c.mode = .exclusive) → r.holders ≠ [] → ∃ r', d₂.entry 0 = some r' ∧
          r'.holders.map Holder.kept = r.holders.map Holder.kept ∧ r'.queue = r.queue)))

/-- UNFENCE of a FENCED agent makes it OFFLINE and changes nothing else; an agent number above 7 ends BAD_PARAM, any other agent WRONG_STATE;
and a cold reset leaves every agent OFFLINE (R143). -/
def Obligations.UnfenceMakesOffline : Prop :=
  (∀ (s : State) (d d₁ : Device) (ch : Agent) (w : Writes), StartsControl s d ch .unfence w d₁ →
    (7 < (d₁.params ch).agent.toNat →
      exec (.unfence ch w) s = .next (s.withDev (d₁.answered ch .unfence { result := .badParam }))) ∧
    ∀ x : Agent, (d₁.params ch).agent.toNat = x.val →
      ((d₁.agent x).state ≠ .fenced →
        exec (.unfence ch w) s = .next (s.withDev (d₁.answered ch .unfence { result := .wrongState }))) ∧
      ((d₁.agent x).state = .fenced →
        exec (.unfence ch w) s = .next (s.withDev
          ((d₁.setAgent x { d₁.agent x with state := .offline }).answered ch .unfence { result := .ok })))) ∧
  ∀ (s : State) (b : BitVec 3), ∃ d, exec (.coldReset b) s = .next (s.withDev d) ∧ ∀ a, (d.agent a).state = .offline

/-- SET AGENT writes the four configuration fields of the named agent; a parameter out of range ends BAD_PARAM, a quota below the counts that
stand against it IN_USE with the three counts in the window; neither changes anything but the answer (R144, Table 48). -/
def Obligations.SetAgentWritesTheConfiguration : Prop :=
  ∀ (s : State) (d d₁ : Device) (ch : Agent) (w : Writes), StartsControl s d ch .setAgent w d₁ →
    let p := d₁.params ch
    (7 < p.agent.toNat ∨ p.holdq = 0 ∨ 32 < p.holdq.toNat ∨ p.waitq = 0 ∨ 8 < p.waitq.toNat ∨ 3 < p.cap.toNat →
      exec (.setAgent ch w) s = .next (s.withDev (d₁.answered ch .setAgent { result := .badParam }))) ∧
    ∀ (x : Agent) (cap : Priority), p.agent.toNat = x.val → p.cap.toNat = cap.val →
      1 ≤ p.holdq.toNat → p.holdq.toNat ≤ 32 → 1 ≤ p.waitq.toNat → p.waitq.toNat ≤ 8 →
      (p.holdq.toNat < d₁.holdCount x + d₁.nonUpgradeWaits x ∨ p.waitq.toNat < d₁.waitCount x →
        exec (.setAgent ch w) s = .next (s.withDev (d₁.answered ch .setAgent
          { result := .inUse
            window := .counts (d₁.holdCount x) (d₁.nonUpgradeWaits x) (d₁.waitCount x) }))) ∧
      (d₁.holdCount x + d₁.nonUpgradeWaits x ≤ p.holdq.toNat → d₁.waitCount x ≤ p.waitq.toNat →
        exec (.setAgent ch w) s = .next (s.withDev ((d₁.setAgent x
          { state := (d₁.agent x).state, holdQuota := p.holdq.toNat, waitQuota := p.waitq.toNat, cap := cap
            create := p.options.getLsbD 2 }).answered ch .setAgent { result := .ok })))

/-- CONFIGURE with all six values in range writes them and reports them; with one out of range it ends BAD_PARAM, changes none, and reports the
values in force. A PLAIN default term above the PLAIN max term is accepted (R157). -/
def Obligations.ConfigureWritesAllOrNone : Prop :=
  ∀ (s : State) (d d₁ : Device) (ch : Agent) (w : Writes), StartsControl s d ch .configure w d₁ →
    let p := d₁.params ch
    let bad := p.tickdiv.toNat < 1000 ∨ 50000 < p.tickdiv.toNat ∨ 60000 < p.reclaim.toNat ∨ p.plaindef = 0 ∨
      p.plainmax = 0 ∨ 1 < p.plainpol.toNat ∨ p.defswto = 0
    let c : DeviceConfig :=
      { tickDiv := p.tickdiv.toNat, window := p.reclaim.toNat, plainDef := p.plaindef.toNat
        plainMax := p.plainmax.toNat, plainAsk := p.plainpol == 1, swTimeout := p.defswto.toNat }
    (bad → exec (.configure ch w) s = .next (s.withDev
      (d₁.answered ch .configure { result := .badParam, window := .values d₁.config }))) ∧
    (¬ bad → exec (.configure ch w) s = .next (s.withDev
      (({ d₁ with config := c } : Device).answered ch .configure { result := .ok, window := .values c })))

/-! ### Records -/

/-- OPEN finds the record of its key, or creates a PLAIN record in the lowest FREE slot from the PLAIN defaults, with the notice cells of the
slot cleared; its refusals stand in the order of Table 10. No two records carry one key (R1, R6, R9 to R11). -/
def Obligations.OpenFindsOrCreates : Prop :=
  ∀ (s : State) (d d₁ : Device) (ch : Agent) (w : Writes), StartsOnline s d ch .openEntry w d₁ → d₁.KeysDistinct →
    let p := d₁.params ch
    let create := p.options.getLsbD 0
    let refused (c : ResultCode) : Prop :=
      exec (.openEntry ch w) s = .next (s.withDev (d₁.answered ch .openEntry { result := c, created := some false }))
    (create = true → 1 < p.sharing.toNat → refused .badParam) ∧
    (create = false ∨ p.sharing.toNat ≤ 1 →
      (∀ e r, d₁.entry e = some r → r.key = p.key →
        (r.lifecycle = .live → exec (.openEntry ch w) s = .next (s.withDev (d₁.answered ch .openEntry
          { result := .ok, created := some false
            handle := some (BitVec.ofNat 16 (e.val * 256 + (d₁.slot e).generation.toNat)) }))) ∧
        (r.lifecycle ≠ .live → refused .retiring)) ∧
      ((∀ e r, d₁.entry e = some r → r.key ≠ p.key) →
        (create = false → refused .noEntry) ∧
        (create = true → (d₁.agent ch).create = false → refused .notPermitted) ∧
        (create = true → (d₁.agent ch).create = true → (∀ e, d₁.entry e ≠ none) → refused .tableFull) ∧
        ∀ e, create = true → (d₁.agent ch).create = true → d₁.entry e = none → (∀ x < e, d₁.entry x ≠ none) →
          exec (.openEntry ch w) s = .next (s.withDev
            (({ d₁ with
                slots := tset d₁.slots e { d₁.slot e with record := some { newRecord p.key (.plain ch) with
                  sharing := if p.sharing = 0 then .exclusiveOnly else .sharedAllowed
                  policy := if d₁.config.plainAsk then .ask else .none
                  defaultTerm := .ms (min d₁.config.plainDef d₁.config.plainMax)
                  maxTerm := .ms d₁.config.plainMax } }
                notices := tset d₁.notices e (Vector.replicate 8 {}) } : Device).answered ch .openEntry
              { result := .ok, created := some true
                handle := some (BitVec.ofNat 16 (e.val * 256 + (d₁.slot e).generation.toNat)) }))))

/-- QUERY answers with the handle and a view of the record, and changes nothing else. Its pages of 16 bytes show the record as R184 lays it out:
page 0, page 1, page 2 + n for agent n, whether it holds the entry or not, and zeros from page 10; addresses 50h to 5Fh then read the page that
VIEWPAGE names (R18, R19, R184). -/
def Obligations.QueryShowsTheRecord : Prop :=
  ∀ (s : State) (d d₁ : Device) (ch : Agent) (w : Writes) (e : EntryIx) (r : Record),
    StartsOnline s d ch .query w d₁ → d₁.lookup (d₁.params ch).handle = .ok (e, r) →
    (r.holders.map (·.agent)).Nodup →
    ∃ v : QueryView,
      exec (.query ch w) s = .next (s.withDev (d₁.answered ch .query
        { result := .ok, handle := some (d₁.params ch).handle, window := .view v })) ∧
      (∀ n : Nat, n < 16 → (d₁.answered ch .query
        { result := .ok, handle := some (d₁.params ch).handle, window := .view v }).readRegister ch (0x50 + BitVec.ofNat 7 n) =
          (v.page (d₁.chan ch).viewPage.toNat).getD n 0) ∧
      v.page 0 =
        bytesOf r.key ++
        [match r.origin with | .defined => (0 : Byte) | .plain _ => 1,
         match r.origin with | .defined => 0xFF | .plain a => BitVec.ofNat 8 a.val,
         match r.lifecycle with | .live => 0 | .retiring _ _ => 1,
         match r.occupancy with | .idle => 0 | .heldX => 1 | .heldS => 2 | .switching _ => 3 | .faulted => 4,
         match r.sharing with | .exclusiveOnly => 0 | .sharedAllowed => 1,
         match r.policy with | .none => 0 | .ask => 1 | .force _ => 2] ++
        (match r.policy with | .force g => bytesOf (BitVec.ofNat 16 g) | _ => [0xFF, 0xFF]) ++
        [BitVec.ofNat 8 r.holders.length, BitVec.ofNat 8 r.queue.length] ++
        (match r.queue with
         | [] => [0xFF, 0xFF]
         | c :: _ => [BitVec.ofNat 8 c.agent.val, match c.mode with | .shared => 1 | .exclusive => 2 | .upgrade => 3]) ∧
      v.page 1 =
        bytesOf r.defaultTerm.code ++ bytesOf r.maxTerm.code ++
        [if r.unboundedAllowed then (1 : Byte) else 0,
         match r.group with | none => 0xFF | some g => BitVec.ofNat 8 (g.val + 1),
         match r.occupancy with | .switching (.agent a) => BitVec.ofNat 8 a.val | .switching .home => 8 | _ => 0xFF] ++
        (match r.lifecycle with
         | .live => [0xFF, 0xFF]
         | .retiring q m => [match m with | .drain => (1 : Byte) | .immediate => 2, BitVec.ofNat 8 q.val]) ++ [0, 0, 0] ∧
      (∀ h ∈ r.holders, v.page (2 + h.agent.val) =
        [1, match h.mode with | .shared => 1 | .exclusive => 2, BitVec.ofNat 8 h.priority.val, if h.asked then 1 else 0] ++
        bytesOf h.ticket ++ bytesOf h.remaining.code ++ [0, 0, 0, 0]) ∧
      (∀ a : Agent, r.heldBy a = false →
        v.page (2 + a.val) = 0 :: List.replicate 11 0xFF ++ [0, 0, 0, 0]) ∧
      ∀ n, 10 ≤ n → v.page n = List.replicate 16 0

/-- DEFINE of the control holder with inconsistent parameters ends BAD_PARAM and changes nothing but the answer; with consistent ones it
does not end BAD_PARAM. AMEND of a current handle to an entry other than entry 0 makes the same checks (R12, R14, R183, Table 11). -/
def Obligations.ParametersAreCheckedForConsistency : Prop :=
  (∀ (s : State) (d d₁ : Device) (ch : Agent) (w : Writes), StartsControl s d ch .define w d₁ →
    ((d₁.params ch).Inconsistent →
      exec (.define ch w) s = .next (s.withDev (d₁.answered ch .define { result := .badParam }))) ∧
    (¬ (d₁.params ch).Inconsistent →
      ∃ (d₂ : Device) (x : Results),
        exec (.define ch w) s = .next (s.withDev (d₂.answered ch .define x)) ∧ x.result ≠ .badParam)) ∧
  ∀ (s : State) (d d₁ : Device) (ch : Agent) (w : Writes) (e : EntryIx) (r : Record),
    StartsControl s d ch .amend w d₁ → d₁.lookup (d₁.params ch).handle = .ok (e, r) → e ≠ 0 →
    (d₁.params ch).Inconsistent →
      exec (.amend ch w) s = .next (s.withDev (d₁.answered ch .amend { result := .badParam }))

/-- DEFINE with consistent parameters: EXISTS or RETIRING where the key is found, IN_USE where the group is bound, TABLE_FULL where no slot is
FREE; otherwise a DEFINED record stands in the lowest FREE slot, with the slot's notice cells cleared, and its group is bound to it, with a
switch to home started where one is due. No two records carry one key (R9, R13, R115, R117, R118). -/
def Obligations.DefineCreatesAndBinds : Prop :=
  ∀ (s : State) (d d₁ : Device) (ch : Agent) (w : Writes), StartsControl s d ch .define w d₁ → d₁.KeysDistinct →
    let p := d₁.params ch
    ¬ p.Inconsistent →
    let refused (c : ResultCode) : Prop :=
      exec (.define ch w) s = .next (s.withDev (d₁.answered ch .define { result := c }))
    let absent : Prop := ∀ e r, d₁.entry e = some r → r.key ≠ p.key
    (∀ e r, d₁.entry e = some r → r.key = p.key →
      (r.lifecycle = .live → refused .alreadyExists) ∧ (r.lifecycle ≠ .live → refused .retiring)) ∧
    (∀ (g : GroupIx) (b : Binding), absent → p.group.toNat = g.val + 1 → (d₁.group g).binding = some b →
      refused .inUse) ∧
    (absent → (∀ g : GroupIx, p.group.toNat = g.val + 1 → (d₁.group g).binding = none) →
      (∀ e, d₁.entry e ≠ none) → refused .tableFull) ∧
    ∀ e, absent → d₁.entry e = none → (∀ x < e, d₁.entry x ≠ none) →
      let made (r : Record) : Device :=
        { d₁ with
          slots := tset d₁.slots e { d₁.slot e with record := some r }
          notices := tset d₁.notices e (Vector.replicate 8 {}) }
      let ok : Results :=
        { result := .ok, handle := some (BitVec.ofNat 16 (e.val * 256 + (d₁.slot e).generation.toNat)) }
      (p.group = 0 → exec (.define ch w) s = .next (s.withDev
        ((made (p.written (newRecord p.key .defined) none)).answered ch .define ok))) ∧
      ∀ (g : GroupIx) (b : Binding), p.Steers e d₁.config.swTimeout g b → (d₁.group g).binding = none →
        exec (.define ch w) s = .next (s.withDev
          (((made { p.written (newRecord p.key .defined) (some g) with
              occupancy := (d₁.group g).homeOccupancy b }).setGroup g
            (((d₁.group g).newlyBound b).homeward b)).answered ch .define ok))

/-- AMEND of an entry other than entry 0 with consistent parameters: its refusals in the order of R14; otherwise the parameters are written, and
the group is left, moved to or bound again as R15 says, with a switch to home started where one is due (R14 to R17, R115, R116). -/
def Obligations.AmendWritesTheRecord : Prop :=
  ∀ (s : State) (d d₁ : Device) (ch : Agent) (w : Writes) (e : EntryIx) (r : Record),
    StartsControl s d ch .amend w d₁ →
    let p := d₁.params ch
    d₁.lookup p.handle = .ok (e, r) → e ≠ 0 → ¬ p.Inconsistent →
    let ends (d₂ : Device) (c : ResultCode) : Prop :=
      exec (.amend ch w) s = .next (s.withDev (d₂.answered ch .amend { result := c }))
    let plainUnbounded := r.origin ≠ .defined ∧ p.options.getLsbD 1 = true
    let free := r.lifecycle = .live ∧ r.occupancy = .idle ∧ r.queue = []
    let left : Device :=
      match r.group with
      | none => d₁
      | some g => d₁.setGroup g { d₁.group g with state := .unbound, binding := none, phase := none }
    (plainUnbounded → ends d₁ .badParam) ∧
    (¬ plainUnbounded → r.lifecycle ≠ .live → ends d₁ .retiring) ∧
    (¬ plainUnbounded → r.lifecycle = .live → r.occupancy ≠ .idle ∨ r.queue ≠ [] → ends d₁ .entryBusy) ∧
    (∀ (g : GroupIx) (b : Binding), ¬ plainUnbounded → free → p.group.toNat = g.val + 1 →
      (d₁.group g).binding = some b → b.entry ≠ e → ends d₁ .inUse) ∧
    (¬ plainUnbounded → free → p.group = 0 → ends (left.putRecord e (p.written r none)) .ok) ∧
    ∀ (g : GroupIx) (b : Binding), ¬ plainUnbounded → free → p.Steers e d₁.config.swTimeout g b →
      (∀ b', (d₁.group g).binding = some b' → b'.entry = e) →
      let r' : Record := { p.written r (some g) with occupancy := (d₁.group g).homeOccupancy b }
      (r.group = some g →
        ends ((d₁.putRecord e r').setGroup g (({ d₁.group g with binding := some b } : GroupRec).homeward b)) .ok) ∧
      (r.group ≠ some g →
        ends ((left.putRecord e r').setGroup g (((d₁.group g).newlyBound b).homeward b)) .ok)

/-- AMEND of entry 0 changes its yield policy alone, and is evaluated under it. A policy NONE or out of range, or a FORCE grace out of range, ends
BAD_PARAM. An asked holder's grace starts at ASK to FORCE, goes on at FORCE to FORCE, and ends at a change to ASK (R16, R90). -/
def Obligations.AmendOfTheControlLease : Prop :=
  ∀ (s : State) (d d₁ : Device) (ch : Agent) (w : Writes) (r : Record), StartsControl s d ch .amend w d₁ →
    let p := d₁.params ch
    d₁.lookup p.handle = .ok (0, r) →
    (p.policy = 0 ∨ 2 < p.policy.toNat ∨ (p.policy = 2 ∧ (p.grace = 0 ∨ 4095 < p.grace.toNat)) →
      exec (.amend ch w) s = .next (s.withDev (d₁.answered ch .amend { result := .badParam }))) ∧
    ∀ y, (p.policy = 1 ∧ y = .ask) ∨
        (p.policy = 2 ∧ 1 ≤ p.grace.toNat ∧ p.grace.toNat ≤ 4095 ∧ y = .force p.grace.toNat) →
      exec (.amend ch w) s = .next (s.withDev (((d₁.putRecord 0 { r with
        policy := y
        holders := r.holders.map fun h =>
          if h.asked = true then
            match r.policy, y with
            | .force _, .force _ => h
            | _, .force g => { h with grace := some g }
            | _, _ => { h with grace := none }
          else h }).evaluate 0).answered ch .amend { result := .ok }))

/-! ### Requests and grants -/

/-- The refusals of REQUEST: a parameter out of range ends BAD_PARAM, and then the first condition that holds, of Table 17 in its order and of the
hold quota after them, ends the command with its result. Nothing changes but the answer (R27 to R29). -/
def Obligations.RequestRefusalsInOrder : Prop :=
  ∀ (s : State) (d d₁ : Device) (ch : Agent) (w : Writes) (e : EntryIx) (r : Record),
    StartsOnline s d ch .request w d₁ →
    let p := d₁.params ch
    d₁.lookup p.handle = .ok (e, r) →
    (p.mode = 0 ∨ 3 < p.mode.toNat ∨ 3 < p.prio.toNat ∨ (65535 < p.term.toNat ∧ p.term ≠ 0xFFFFFFFF) →
      exec (.request ch w) s = .next (s.withDev (d₁.answered ch .request { result := .badParam }))) ∧
    ∀ m q t, RequestNames d₁ ch e r m q t →
      let table : List (Prop × ResultCode) :=
        [(r.lifecycle ≠ .live, .retiring),
         (m ≠ .exclusive ∧ r.sharing = .exclusiveOnly, .modeConflict),
         (r.heldBy ch = true ∧ ¬ (m = .upgrade ∧ (r.holder ch).map (·.mode) = some .shared), .alreadyHeld),
         (m = .upgrade ∧ r.heldBy ch = false, .notHolder),
         (r.waitedBy ch = true, .alreadyWaiting),
         (m = .upgrade ∧ ∃ c ∈ r.queue, c.mode = .upgrade, .upgradeConflict),
         (m ≠ .upgrade ∧ (d₁.agent ch).holdQuota ≤ d₁.holdCount ch + d₁.nonUpgradeWaits ch, .holdQuota)]
      ∀ before cond code after, table = before ++ (cond, code) :: after → (∀ x ∈ before, ¬ x.1) → cond →
        exec (.request ch w) s = .next (s.withDev (d₁.answered ch .request { result := code }))

/-- A REQUEST served at once. EXCLUSIVE on an idle entry that is unsteered or connected to the agent, and SHARED on an idle or shared entry, both
with an empty queue, make a holder record; UPGRADE of the sole holder converts its record, and the entry is evaluated. The grant takes the counter's
ticket, the clamped priority and the granted term, and the answer gives all three with the mode (R24, R30 to R34). -/
def Obligations.RequestServedAtOnce : Prop :=
  ∀ (s : State) (d d₁ : Device) (ch : Agent) (w : Writes) (e : EntryIx) (r : Record) (m : WaitMode) (q : Priority)
      (t : Term),
    StartsOnline s d ch .request w d₁ → RequestNames d₁ ch e r m q t → RequestPasses d₁ ch r m →
    let advanced : Device := { d₁ with ticket := if d₁.ticket = 0xFFFFFFFF then 1 else d₁.ticket + 1 }
    let granted (g : GrantMode) : Results :=
      { result := .granted, priority := some (min q (d₁.agent ch).cap), ticket := some d₁.ticket, mode := some g
        term := some (termGranted r t) }
    let record (g : GrantMode) : Holder :=
      { agent := ch, mode := g, ticket := d₁.ticket, priority := min q (d₁.agent ch).cap
        remaining := termGranted r t, asked := false, grace := none }
    (m = .exclusive → r.occupancy = .idle → r.holders = [] → r.queue = [] →
      r.group = none ∨ (∃ g, r.group = some g ∧ (d₁.group g).select = .agent ch ∧ (d₁.group g).settleKnown = true) →
      exec (.request ch w) s = .next (s.withDev
        ((advanced.putRecord e { r with holders := [record .exclusive], occupancy := .heldX }).answered ch .request
          (granted .exclusive)))) ∧
    (m = .shared → r.occupancy = .idle ∨ r.occupancy = .heldS → (∀ h ∈ r.holders, h.mode = .shared) → r.queue = [] →
      exec (.request ch w) s = .next (s.withDev
        ((advanced.putRecord e { r with holders := r.holders ++ [record .shared], occupancy := .heldS }).answered ch .request
          (granted .shared)))) ∧
    (m = .upgrade → (∃ h, r.holders = [h] ∧ h.agent = ch) →
      exec (.request ch w) s = .next (s.withDev
        (((advanced.putRecord e { r with holders := [record .exclusive], occupancy := .heldX }).evaluate e).answered ch .request
          (granted .exclusive))))

/-- A REQUEST that passes its checks, is not served at once, and has a wait limit of 0, completes UNAVAILABLE with the clamped priority, and nothing
changes but the answer (R35). -/
def Obligations.RequestUnavailable : Prop :=
  ∀ (s : State) (d d₁ : Device) (ch : Agent) (w : Writes) (e : EntryIx) (r : Record) (m : WaitMode) (q : Priority)
      (t : Term),
    StartsOnline s d ch .request w d₁ → RequestNames d₁ ch e r m q t → RequestPasses d₁ ch r m →
    ¬ servedAtOnce ch r m → (d₁.params ch).waitlim = 0 →
    exec (.request ch w) s = .next (s.withDev (d₁.answered ch .request
      { result := .unavailable, priority := some (min q (d₁.agent ch).cap) }))

/-- A REQUEST that passes its checks, is not served at once, and has a wait limit above 0: WAIT_QUOTA, then QUEUE_FULL, both with the clamped priority
and nothing changed; otherwise QUEUED: its cell stands at the front if it is an UPGRADE, else behind the front UPGRADE cell and every cell of equal
or higher priority, and the entry is handed on (R58 to R63). -/
def Obligations.RequestQueued : Prop :=
  ∀ (s : State) (d d₁ : Device) (ch : Agent) (w : Writes) (e : EntryIx) (r : Record) (m : WaitMode) (q : Priority)
      (t : Term),
    StartsOnline s d ch .request w d₁ → RequestNames d₁ ch e r m q t → RequestPasses d₁ ch r m →
    ¬ servedAtOnce ch r m → 0 < (d₁.params ch).waitlim.toNat →
    let clamped := min q (d₁.agent ch).cap
    let ends (d₂ : Device) (c : ResultCode) : Prop :=
      exec (.request ch w) s = .next (s.withDev (d₂.answered ch .request { result := c, priority := some clamped }))
    let cell : WaitCell :=
      { agent := ch, mode := m, priority := clamped, term := t, target := false
        deadline := if (d₁.params ch).waitlim.toNat = 65535 then none else some (d₁.params ch).waitlim.toNat }
    let ahead (x : WaitCell) : Bool := decide (m ≠ .upgrade ∧ (x.mode = .upgrade ∨ clamped ≤ x.priority))
    ((d₁.agent ch).waitQuota ≤ d₁.waitCount ch → ends d₁ .waitQuota) ∧
    (d₁.waitCount ch < (d₁.agent ch).waitQuota → 64 ≤ d₁.cellsInUse → ends d₁ .queueFull) ∧
    (d₁.waitCount ch < (d₁.agent ch).waitQuota → d₁.cellsInUse < 64 →
      ends ((d₁.putRecord e { r with
        queue := r.queue.takeWhile ahead ++ cell :: r.queue.dropWhile ahead }).handOn e) .queued)

/-- An EXCLUSIVE REQUEST on an idle steered entry with an empty queue, whose group does not connect the agent, goes IN_FLIGHT whatever its wait
limit, after the wait quota and the pool: its flagged cell is the queue, entry and group are SWITCHING to the agent, and the channel holds the
latched REQUEST, with COMPLETE clear and no completion (R63, R117, R118, R121). -/
def Obligations.RequestGoesInFlight : Prop :=
  ∀ (s : State) (d d₁ : Device) (ch : Agent) (w : Writes) (e : EntryIx) (r : Record) (q : Priority) (t : Term)
      (g : GroupIx) (b : Binding),
    StartsOnline s d ch .request w d₁ → RequestNames d₁ ch e r .exclusive q t → RequestPasses d₁ ch r .exclusive →
    r.occupancy = .idle → r.holders = [] → r.queue = [] → r.group = some g → (d₁.group g).binding = some b →
    ¬ ((d₁.group g).select = .agent ch ∧ (d₁.group g).settleKnown = true) →
    let clamped := min q (d₁.agent ch).cap
    let ends (c : ResultCode) : Prop :=
      exec (.request ch w) s = .next (s.withDev (d₁.answered ch .request { result := c, priority := some clamped }))
    ((d₁.agent ch).waitQuota ≤ d₁.waitCount ch → ends .waitQuota) ∧
    (d₁.waitCount ch < (d₁.agent ch).waitQuota → 64 ≤ d₁.cellsInUse → ends .queueFull) ∧
    (d₁.waitCount ch < (d₁.agent ch).waitQuota → d₁.cellsInUse < 64 →
      exec (.request ch w) s = .next (s.withDev (((d₁.putRecord e { r with
        occupancy := .switching (.agent ch)
        queue := [{ agent := ch, mode := .exclusive, priority := clamped, term := t, deadline := none, target := true }]
        }).setGroup g
          (if (d₁.group g).stdone = true then { d₁.group g with state := .switching, phase := some .deferred }
           else { d₁.group g with
             state := .switching, settleKnown := false, select := .agent ch, phase := some (.requesting b.timeout) })).setChan ch
        { d₁.chan ch with
          state := .inFlight, latched := some ⟨.request, (d₁.params ch).latch .request⟩, complete := false
          overrun := false })))

/-- RELEASE ends the agent's grant, with its UPGRADE cell, and CANCEL removes the agent's cell; the entry is then handed on. Without a grant, or without
a cell, they end NOT_HOLDER and NOT_WAITING and change nothing but the answer. To hand an entry on is the grant decision, the check for drain
completion and the evaluation, in that order (R36 to R38, R51, R66, R67, R93, R104). -/
def Obligations.ReleaseAndCancelHandOn : Prop :=
  (∀ (s : State) (d d₁ : Device) (ch : Agent) (w : Writes) (e : EntryIx) (r : Record),
    StartsOnline s d ch .release w d₁ → d₁.lookup (d₁.params ch).handle = .ok (e, r) →
    (r.heldBy ch = true → exec (.release ch w) s = .next (s.withDev
      (((d₁.putRecord e (r.withoutGrant ch)).handOn e).answered ch .release { result := .ok }))) ∧
    (r.heldBy ch = false → exec (.release ch w) s = .next (s.withDev
      (d₁.answered ch .release { result := .notHolder })))) ∧
  (∀ (d : Device) (e : EntryIx), d.handOn e = ((d.grantDecision e).checkDrain e).evaluate e) ∧
  ∀ (s : State) (d d₁ : Device) (ch : Agent) (w : Writes) (e : EntryIx) (r : Record),
    StartsOnline s d ch .cancel w d₁ → d₁.lookup (d₁.params ch).handle = .ok (e, r) →
    (r.waitedBy ch = true → exec (.cancel ch w) s = .next (s.withDev
      (((d₁.putRecord e (r.withoutCell ch)).handOn e).answered ch .cancel { result := .ok }))) ∧
    (r.waitedBy ch = false → exec (.cancel ch w) s = .next (s.withDev
      (d₁.answered ch .cancel { result := .notWaiting })))

/-- RENEW gives the agent's grant a new remaining term, computed as a granted term, and reports it; BAD_PARAM for a term out of range, NOT_HOLDER
without a grant. CHECK answers CURRENT, with agent and mode, for the ticket of a holder record, and STALE for 0 and for every other. Nothing
else changes (R33, R41, R53 to R55). -/
def Obligations.RenewAndCheck : Prop :=
  (∀ (s : State) (d d₁ : Device) (ch : Agent) (w : Writes) (e : EntryIx) (r : Record),
    StartsOnline s d ch .renew w d₁ → d₁.lookup (d₁.params ch).handle = .ok (e, r) →
    let v := (d₁.params ch).term
    (65535 < v.toNat → v ≠ 0xFFFFFFFF →
      exec (.renew ch w) s = .next (s.withDev (d₁.answered ch .renew { result := .badParam }))) ∧
    ∀ t, (v = 0xFFFFFFFF ∧ t = .unbounded) ∨ (v.toNat ≤ 65535 ∧ t = .ms v.toNat) →
      (r.heldBy ch = false →
        exec (.renew ch w) s = .next (s.withDev (d₁.answered ch .renew { result := .notHolder }))) ∧
      (r.heldBy ch = true →
        exec (.renew ch w) s = .next (s.withDev ((d₁.putRecord e { r with
          holders := r.holders.map fun h => if h.agent = ch then { h with remaining := termGranted r t } else h }).answered
          ch .renew { result := .ok, term := some (termGranted r t) })))) ∧
  ∀ (s : State) (d d₁ : Device) (ch : Agent) (w : Writes) (e : EntryIx) (r : Record),
    StartsOnline s d ch .check w d₁ → d₁.lookup (d₁.params ch).handle = .ok (e, r) →
    let v := (d₁.params ch).ticket
    (v = 0 ∨ (∀ h ∈ r.holders, h.ticket ≠ v) →
      exec (.check ch w) s = .next (s.withDev (d₁.answered ch .check { result := .stale }))) ∧
    ∀ h ∈ r.holders, h.ticket = v → v ≠ 0 → (∀ h' ∈ r.holders, h'.ticket = v → h' = h) →
      exec (.check ch w) s = .next (s.withDev (d₁.answered ch .check
        { result := .current, agent := some h.agent, mode := some h.mode }))

/-- DOWNGRADE of an EXCLUSIVE grant makes it SHARED with the rest of its record kept, the entry HELD_S, and hands the entry on. NOT_HOLDER without a
grant, MODE_CONFLICT on an EXCLUSIVE_ONLY entry, WRONG_STATE for a SHARED grant, with nothing changed (R39, R40). -/
def Obligations.DowngradeShares : Prop :=
  ∀ (s : State) (d d₁ : Device) (ch : Agent) (w : Writes) (e : EntryIx) (r : Record),
    StartsOnline s d ch .downgrade w d₁ → d₁.lookup (d₁.params ch).handle = .ok (e, r) →
    let ends (d₂ : Device) (c : ResultCode) : Prop :=
      exec (.downgrade ch w) s = .next (s.withDev (d₂.answered ch .downgrade { result := c }))
    (r.heldBy ch = false → ends d₁ .notHolder) ∧
    ∀ h, r.holder ch = some h →
      (r.sharing = .exclusiveOnly → ends d₁ .modeConflict) ∧
      (r.sharing = .sharedAllowed → h.mode = .shared → ends d₁ .wrongState) ∧
      (r.sharing = .sharedAllowed → h.mode = .exclusive →
        ends ((d₁.putRecord e { r with
          holders := r.holders.map fun x => if x.agent = ch then { x with mode := .shared } else x
          occupancy := .heldS }).handOn e) .ok)

/-- FORCE RELEASE ends the named agent's grant, with its UPGRADE cell, posts REVOKED, hands the entry on, and reports ticket and mode. An agent number
above 7 ends BAD_PARAM, the issuer itself NOT_PERMITTED, an agent without a grant NOT_HOLDER (R92, R93, R95, R96). -/
def Obligations.ForceReleaseRevokes : Prop :=
  ∀ (s : State) (d d₁ : Device) (ch : Agent) (w : Writes) (e : EntryIx) (r : Record),
    StartsControl s d ch .forceRelease w d₁ → d₁.lookup (d₁.params ch).handle = .ok (e, r) →
    let ends (d₂ : Device) (x : Results) : Prop :=
      exec (.forceRelease ch w) s = .next (s.withDev (d₂.answered ch .forceRelease x))
    (7 < (d₁.params ch).agent.toNat → ends d₁ { result := .badParam }) ∧
    ∀ a : Agent, (d₁.params ch).agent.toNat = a.val →
      (a = ch → ends d₁ { result := .notPermitted }) ∧
      (a ≠ ch → r.heldBy a = false → ends d₁ { result := .notHolder }) ∧
      ∀ h, a ≠ ch → r.holder a = some h →
        ends (((d₁.putRecord e (r.withoutGrant a)).post e a .revoked).handOn e)
          { result := .ok, ticket := some h.ticket, mode := some h.mode }

/-- TAKE NOTICE of an agent that is not FENCED reports the lowest of its cells with a pending kind: the handle with the stored generation, the kinds,
the relation to a record of that generation and the number of other pending cells; it clears that cell alone. With none pending it ends
NO_NOTICE with remaining 0 (R162, R167, R169). -/
def Obligations.TakeNoticeCollectsTheLowestCell : Prop :=
  ∀ (s : State) (d d₁ : Device) (ch : Agent) (w : Writes), Starts s d ch .takeNotice w d₁ →
    (d₁.agent ch).state ≠ .fenced →
    ((∀ e, (d₁.notice e ch).kinds = {}) →
      exec (.takeNotice ch w) s = .next (s.withDev
        (d₁.answered ch .takeNotice { result := .noNotice, remaining := some 0 }))) ∧
    ∀ e g rel, (d₁.notice e ch).kinds ≠ {} → (∀ x < e, (d₁.notice x ch).kinds = {}) →
      (d₁.notice e ch).generation = some g →
      rel = (match d₁.entry e with
        | none => Relation.none
        | some r =>
          if (d₁.slot e).generation = g then
            match r.holder ch with
            | some h => if h.mode = .exclusive then .exclusiveHolder else .sharedHolder
            | none => if r.waitedBy ch = true then .waiting else .none
          else .none) →
      exec (.takeNotice ch w) s = .next (s.withDev ((d₁.setNotice e ch {}).answered ch .takeNotice
        { result := .ok, handle := some (BitVec.ofNat 16 (e.val * 256 + g.toNat)), kinds := some (d₁.notice e ch).kinds
          relation := some rel
          remaining := some ((allEntries.filter fun x => x ≠ e ∧ (d₁.notice x ch).kinds ≠ {}).length) }))

/-! ### Retirement -/

/-- RETIRE: BAD_PARAM for another mode, NOT_PERMITTED for entry 0 and for an agent that is neither the control holder nor, in DRAIN mode, the
creator, WRONG_STATE where it is RETIRING already. Otherwise it ends OK; an entry without holders after it, and not switching, is drained; any
other stays RETIRING with an empty queue, every ask withdrawn and RETIRING posted to its ONLINE holders and waiters; an IN_FLIGHT waiter completes
RETIRING. Other entries, agents and channels stay as they were (R100 to R102, R104 to R107). -/
def Obligations.RetireEndsTheWaits : Prop :=
  ∀ (s : State) (d d₁ : Device) (ch : Agent) (w : Writes) (e : EntryIx) (r : Record),
    StartsOnline s d ch .retire w d₁ →
    let p := d₁.params ch
    d₁.lookup p.handle = .ok (e, r) →
    let ends (d₂ : Device) (c : ResultCode) : Prop :=
      exec (.retire ch w) s = .next (s.withDev (d₂.answered ch .retire { result := c }))
    let permitted (m : RetireMode) : Prop :=
      d₁.controlHolder = some ch ∨ (m = .drain ∧ r.origin = .plain ch)
    (p.mode = 0 ∨ 2 < p.mode.toNat → ends d₁ .badParam) ∧
    ∀ m, (p.mode = 1 ∧ m = .drain) ∨ (p.mode = 2 ∧ m = .immediate) →
      (e = 0 ∨ ¬ permitted m → ends d₁ .notPermitted) ∧
      (e ≠ 0 → permitted m → r.lifecycle ≠ .live → ends d₁ .wrongState) ∧
      (e ≠ 0 → permitted m → r.lifecycle = .live → (r.queue.map (·.agent)).Nodup →
        ∃ d₂, ends d₂ .ok ∧ OnlyEntry e d₁ { d₂ with channels := d₁.channels } ∧ d₂.ticket = d₁.ticket ∧
          (∀ c ∈ r.queue, d₁.inFlightOn c.agent e = true → d₂.chan c.agent = { d₁.chan c.agent with
            state := .ready, latched := none, completed := some .request
            results := { result := .retiring, priority := some c.priority }, complete := true }) ∧
          (∀ a, d₁.inFlightOn a e = false ∨ r.waitedBy a = false → d₂.chan a = d₁.chan a) ∧
          (m = .drain ∧ r.holders ≠ [] ∨ r.holders = [] ∧ r.isSwitching = true →
            d₂.entry e = some { r with
              lifecycle := .retiring ch m, queue := [], holders := r.holders.map (evaluated d₁ { r with queue := [] }) } ∧
            ∀ a, (d₁.agent a).state = .online →
              (r.heldBy a = true ∨ r.waitedBy a = true ∧ d₁.inFlightOn a e = false) →
              (d₂.notice e a).kinds.retiring = true) ∧
          ((m = .immediate ∨ r.holders = []) → r.isSwitching = false →
            d₂.slot e = { generation := if (d₁.slot e).generation = 255 then 1 else (d₁.slot e).generation + 1
                          record := none } ∧
            (∀ g, r.group = some g →
              d₂.group g = { d₁.group g with state := .unbound, binding := none, phase := none }) ∧
            ∀ a, (d₂.notice e a).kinds = { retireDone := (d₁.notice e a).kinds.retireDone || a == ch }))

/-! ### Steering -/

/-- CLEAR FAULT of a FAULTED group makes it SETTLED with settle known no and its entry IDLE, and hands the entry on; a group number outside 1 to 4 ends
BAD_PARAM, a group that is not FAULTED WRONG_STATE (R125). -/
def Obligations.ClearFaultHandsOn : Prop :=
  ∀ (s : State) (d d₁ : Device) (ch : Agent) (w : Writes), StartsControl s d ch .clearFault w d₁ →
    let ends (d₂ : Device) (c : ResultCode) : Prop :=
      exec (.clearFault ch w) s = .next (s.withDev (d₂.answered ch .clearFault { result := c }))
    ((d₁.params ch).group = 0 ∨ 4 < (d₁.params ch).group.toNat → ends d₁ .badParam) ∧
    ∀ g : GroupIx, (d₁.params ch).group.toNat = g.val + 1 →
      ((d₁.group g).state ≠ .faulted → ends d₁ .wrongState) ∧
      ∀ b r, (d₁.group g).state = .faulted → (d₁.group g).binding = some b → d₁.entry b.entry = some r →
        ends (((d₁.setGroup g { d₁.group g with state := .settled, settleKnown := false }).putRecord b.entry
          { r with occupancy := .idle }).handOn b.entry) .ok

/-- A rise of STDONE in phase REQUESTING is the settle: the group is SETTLED with settle known yes, and a LIVE entry whose queue holds the target's
flagged cell grants it, with a GRANTED completion of an IN_FLIGHT REQUEST or a GRANTED notice, and is evaluated; any other entry is handed on
IDLE. A rise in any other state or phase notes the level alone. THE MODEL'S CHOICE: the rows SETTLE and STDONE_RISE are one (log 8), a level already
there is no edge and a held part notes the level alone (log 7), as does one without its retention supply (log 5) (R113, R119, R120). -/
def Obligations.SettleGrantsTheTarget : Prop :=
  ∀ (s : State) (g : GroupIx) (i : Instr), i = .settle g ∨ i = .stdoneRise g →
    (tget s.pins.stdoneHigh g = true → exec i s = .next s) ∧
    (tget s.pins.stdoneHigh g = false →
      let p := { s.pins with stdoneHigh := tset s.pins.stdoneHigh g true }
      (s.dev = none ∨ s.held = true → exec i s = .next { s with pins := p }) ∧
      ∀ d, Live s d →
        let x := d.group g
        let ends (d₂ : Device) : Prop := exec i s = .next { s with pins := p, dev := some d₂ }
        ((x.state ≠ .switching ∨ ∀ n, x.phase ≠ some (.requesting n)) → ends (d.setGroup g { x with stdone := true })) ∧
        ∀ n b r, x.state = .switching → x.phase = some (.requesting n) → x.binding = some b →
          d.entry b.entry = some r → r.holders = [] → (r.queue.map (·.agent)).Nodup →
          let d₁ := d.setGroup g { x with state := .settled, settleKnown := true, phase := none, stdone := true }
          (∀ a c, r.lifecycle = .live → r.occupancy = .switching (.agent a) → c ∈ r.queue → c.agent = a →
            c.target = true →
            let d₂ := ({ d₁ with ticket := if d.ticket = 0xFFFFFFFF then 1 else d.ticket + 1 } : Device).putRecord b.entry
              { r with
                queue := r.queue.filter fun y => y.agent ≠ a
                holders := [{ agent := a, mode := .exclusive, ticket := d.ticket, priority := c.priority
                              remaining := termGranted r c.term, asked := false, grace := none }]
                occupancy := .heldX }
            (d.inFlightOn a b.entry = true → ends ((d₂.setChan a { d.chan a with
              state := .ready, latched := none, completed := some .request, complete := true
              results := { result := .granted, priority := some c.priority, ticket := some d.ticket
                           mode := some .exclusive, term := some (termGranted r c.term) } }).evaluate b.entry)) ∧
            (d.inFlightOn a b.entry = false → ends ((d₂.post b.entry a .granted).evaluate b.entry))) ∧
          (r.lifecycle ≠ .live ∨
            (∀ a, r.occupancy = .switching (.agent a) → ∀ c ∈ r.queue, c.agent = a → c.target = false) →
            ends ((d₁.putRecord b.entry { r with occupancy := .idle }).handOn b.entry)))

/-- A group drives STSEL and STPARK from its select, and STREQ high exactly in phase REQUESTING, also while a warm reset is held. A fall of STDONE
drives a DEFERRED switch into phase REQUESTING toward the target of the record, with settle known no and the full timeout; in any other state or
phase it notes the level alone. THE MODEL'S CHOICE: a level already there is no edge and a held part notes the level alone (log 7), as does one
without its retention supply (log 5) (R113, R117, R118). -/
def Obligations.FallDrivesADeferredSwitch : Prop :=
  (∀ (s : State) (d : Device) (g : GroupIx), s.dev = some d → ∃ p, s.steerPins g = some p ∧
    (∀ a : Agent, (d.group g).select = .agent a → p.stpark = false ∧ p.stsel.toNat = a.val) ∧
    ((d.group g).select = .park → p.stpark = true ∧ p.stsel = 0) ∧
    (p.streq = true ↔ (d.group g).state = .switching ∧ ∃ n, (d.group g).phase = some (.requesting n))) ∧
  ∀ (s : State) (g : GroupIx),
    (tget s.pins.stdoneHigh g = false → exec (.stdoneFall g) s = .next s) ∧
    (tget s.pins.stdoneHigh g = true →
      let p := { s.pins with stdoneHigh := tset s.pins.stdoneHigh g false }
      (s.dev = none ∨ s.held = true → exec (.stdoneFall g) s = .next { s with pins := p }) ∧
      ∀ d, Live s d →
        let x := d.group g
        (x.state ≠ .switching ∨ x.phase ≠ some .deferred →
          exec (.stdoneFall g) s = .next { s with pins := p, dev := some (d.setGroup g { x with stdone := false }) }) ∧
        ∀ b r t, x.state = .switching → x.phase = some .deferred → x.binding = some b →
          d.entry b.entry = some r → r.occupancy = .switching t →
          exec (.stdoneFall g) s = .next { s with
            pins := p
            dev := some (d.setGroup g { x with
              stdone := false, settleKnown := false, phase := some (.requesting b.timeout)
              select := match t with | .agent a => .agent a | .home => b.home }) })

/-- A switch timeout, once issued and with the countdown at 0, fails the switch: group and entry FAULTED, settle known no, the target's flagged cell
removed, with a STEER_FAULT completion of an IN_FLIGHT REQUEST or a STEER_FAULT notice; a RETIRING entry is drained. Otherwise it changes nothing
but that it is no longer issued. THE MODEL'S CHOICE (log 2): the row of a timeout that is not issued changes nothing (R45, R104, R123). -/
def Obligations.SwitchTimeoutFaults : Prop :=
  ∀ (s : State) (d : Device) (g : GroupIx), Live s d →
    let ends (d₂ : Device) : Prop := exec (.switchTimeout g) s = .next (s.withDev d₂)
    (Expiry.switch g ∉ d.issued → ends d) ∧
    (Expiry.switch g ∈ d.issued →
      let d₀ : Device := { d with issued := d.issued.erase (.switch g) }
      let x := d.group g
      (x.state ≠ .switching ∨ x.phase ≠ some (.requesting 0) → ends d₀) ∧
      ∀ b r, x.state = .switching → x.phase = some (.requesting 0) → x.binding = some b →
        d.entry b.entry = some r → r.holders = [] → (r.queue.map (·.agent)).Nodup →
        let d₁ := d₀.setGroup g { x with state := .faulted, settleKnown := false, phase := none }
        (∀ a c, r.occupancy = .switching (.agent a) → c ∈ r.queue → c.agent = a → c.target = true →
          let r' : Record := { r with occupancy := .faulted, queue := r.queue.filter fun y => y.agent ≠ a }
          (d.inFlightOn a b.entry = true → ends (((d₁.putRecord b.entry r').setChan a { d.chan a with
            state := .ready, latched := none, completed := some .request, complete := true
            results := { result := .steerFault, priority := some c.priority } }).checkDrain b.entry)) ∧
          (d.inFlightOn a b.entry = false →
            ends (((d₁.putRecord b.entry r').post b.entry a .steerFault).checkDrain b.entry))) ∧
        ((∀ a, r.occupancy = .switching (.agent a) → ∀ c ∈ r.queue, c.agent = a → c.target = false) →
          ends ((d₁.putRecord b.entry { r with occupancy := .faulted }).checkDrain b.entry)))

/-! ### Time -/

/-- A term tick takes every running countdown down by one, leaves UNBOUNDED and 0 as they are, issues exactly one expiry for each that passes from 1
to 0, and begins a new tick period with the divisor now configured; a held part takes no tick. THE MODEL'S CHOICE: the row is the elapse of whatever
rest of the tick period is left (log 3), and a part without its retention supply takes no tick (log 5) (R43 to R46, R69, R91, R118, R123, R175,
R179). -/
def Obligations.TickMovesEveryCountdown : Prop :=
  (∀ (s : State), s.dev = none ∨ s.held = true → exec .termTick s = .next s) ∧
  ∀ (s : State) (d : Device), Live s d → ∃ d', exec .termTick s = .next (s.withDev d') ∧
    (∀ e, d'.slot e = { d.slot e with record := (d.slot e).record.map fun r =>
      { r with
        holders := r.holders.map fun h => { h with
          remaining := match h.remaining with | .ms n => .ms (n - 1) | .unbounded => .unbounded
          grace := h.grace.map fun n => n - 1 }
        queue := r.queue.map fun c => { c with deadline := c.deadline.map fun n => n - 1 } } }) ∧
    (∀ g, d'.group g = { d.group g with phase :=
      match (d.group g).phase with | some (.requesting n) => some (.requesting (n - 1)) | ph => ph }) ∧
    d'.reclaimLeft = d.reclaimLeft.map (fun n => n - 1) ∧
    (∀ x, d'.issued.count x = d.issued.count x +
      match x with
      | .term e a t => match d.entry e with
        | none => 0
        | some r => r.holders.countP fun h => h.agent = a ∧ h.ticket = t ∧ h.remaining = .ms 1
      | .grace e a t => match d.entry e with
        | none => 0
        | some r => r.holders.countP fun h => h.agent = a ∧ h.ticket = t ∧ h.grace = some 1
      | .wait e a => match d.entry e with
        | none => 0
        | some r => r.queue.countP fun c => c.agent = a ∧ c.deadline = some 1
      | .switch g => if (d.group g).phase = some (.requesting 1) then 1 else 0
      | .window => if d.reclaimLeft = some 1 then 1 else 0) ∧
    d'.tickPhase = 0 ∧ d'.tickPeriod = d.config.tickDiv ∧
    { d' with
      slots := d.slots, groups := d.groups, issued := d.issued, reclaimLeft := d.reclaimLeft
      tickPhase := d.tickPhase, tickPeriod := d.tickPeriod } = d

/-- A term, wait-limit or grace expiry, once issued, ends the grant or the wait it names, where that still stands with its countdown at 0 (for a
grace, with the ask standing): the record or cell goes, EXPIRED, WAIT_ENDED or REVOKED is posted, and the entry is handed on. Otherwise it changes
nothing but that it is no longer issued. THE MODEL'S CHOICE (log 2): the row of an expiry that is not issued changes nothing. A holder list names no
agent twice (R45, R50 to R52, R69, R91 to R93). -/
def Obligations.ExpiriesEndWhatTheyName : Prop :=
  (∀ (s : State) (d : Device) (e : EntryIx) (a : Agent) (t : Ticket), Live s d →
    let ends (d₂ : Device) : Prop := exec (.termExpiry e a t) s = .next (s.withDev d₂)
    (Expiry.term e a t ∉ d.issued → ends d) ∧
    (Expiry.term e a t ∈ d.issued →
      let d₀ : Device := { d with issued := d.issued.erase (.term e a t) }
      ((∀ r h, d.entry e = some r → h ∈ r.holders → h.agent = a → h.ticket = t → h.remaining ≠ .ms 0) → ends d₀) ∧
      ∀ r h, d.entry e = some r → (r.holders.map (·.agent)).Nodup → h ∈ r.holders → h.agent = a → h.ticket = t →
        h.remaining = .ms 0 → ends (((d₀.putRecord e (r.withoutGrant a)).post e a .expired).handOn e))) ∧
  (∀ (s : State) (d : Device) (e : EntryIx) (a : Agent), Live s d →
    let ends (d₂ : Device) : Prop := exec (.waitLimitExpiry e a) s = .next (s.withDev d₂)
    (Expiry.wait e a ∉ d.issued → ends d) ∧
    (Expiry.wait e a ∈ d.issued →
      let d₀ : Device := { d with issued := d.issued.erase (.wait e a) }
      ((∀ r c, d.entry e = some r → c ∈ r.queue → c.agent = a → c.deadline ≠ some 0) → ends d₀) ∧
      ∀ r c, d.entry e = some r → c ∈ r.queue → c.agent = a → c.deadline = some 0 →
        ends (((d₀.putRecord e (r.withoutCell a)).post e a .waitEnded).handOn e))) ∧
  ∀ (s : State) (d : Device) (e : EntryIx) (a : Agent) (t : Ticket), Live s d →
    let ends (d₂ : Device) : Prop := exec (.graceExpiry e a t) s = .next (s.withDev d₂)
    (Expiry.grace e a t ∉ d.issued → ends d) ∧
    (Expiry.grace e a t ∈ d.issued →
      let d₀ : Device := { d with issued := d.issued.erase (.grace e a t) }
      ((∀ r h, d.entry e = some r → h ∈ r.holders → h.agent = a → h.ticket = t →
        h.asked = false ∨ h.grace ≠ some 0) → ends d₀) ∧
      ∀ r h, d.entry e = some r → (r.holders.map (·.agent)).Nodup → h ∈ r.holders → h.agent = a → h.ticket = t →
        h.asked = true → h.grace = some 0 →
        ends (((d₀.putRecord e (r.withoutGrant a)).post e a .revoked).handOn e))

/-! ### Resets -/

/-- A warm reset begins where no cause was present: by WARM RESET of the control holder, which writes no completion, and by the fall of nRESET or the
loss of the core supply; from then on no agent is the control holder. A cause that arises while one is present is noted alone. THE MODEL'S CHOICE: a
cause already present is no edge (log 7), one that arises without the retention supply is noted alone (log 5), and the tick phase is 0 and a group
keeps its STDONE level while held (log 13, in `WarmBegun`) (R172 to R175). -/
def Obligations.WarmResetBegins : Prop :=
  (∀ (s : State) (d d₁ : Device) (ch : Agent) (w : Writes), StartsControl s d ch .warmReset w d₁ →
    ∃ d₂, WarmBegun d₁ d₂ ∧ d₂.cmdReset = true ∧ exec (.warmReset ch w) s = .next (s.withDev d₂)) ∧
  ∀ (s : State) (c : PinCause),
    let present := match c with | .nreset => s.pins.nresetLow | .coreSupply => s.pins.coreAbsent
    let p := match c with
      | .nreset => { s.pins with nresetLow := true }
      | .coreSupply => { s.pins with coreAbsent := true }
    (present = true → exec (.warmResetBegin c) s = .next s) ∧
    (present = false →
      (s.dev = none ∨ s.held = true → exec (.warmResetBegin c) s = .next { s with pins := p }) ∧
      ∀ d, Live s d → ∃ d₂, WarmBegun d d₂ ∧ d₂.cmdReset = d.cmdReset ∧
        exec (.warmResetBegin c) s = .next { s with pins := p, dev := some d₂ })

/-- A cause that ends releases the warm reset where it was the last, and is noted alone otherwise. At the
release the part is as `Released` says. THE MODEL'S CHOICE: the cause of a WARM RESET command ends at a row of its own (log 6), a cause that is not
present does not end (logs 6 and 7), and without the retention supply its end is noted alone (log 5) (R56, R171 to R173, R176). -/
def Obligations.WarmResetReleasesWithTheLastCause : Prop :=
  (∀ (s : State) (c : PinCause),
    let present := match c with | .nreset => s.pins.nresetLow | .coreSupply => s.pins.coreAbsent
    let p := match c with
      | .nreset => { s.pins with nresetLow := false }
      | .coreSupply => { s.pins with coreAbsent := false }
    (present = false → exec (.warmResetRelease (.pin c)) s = .next s) ∧
    (present = true →
      (s.dev = none ∨ ({ s with pins := p } : State).held = true →
        exec (.warmResetRelease (.pin c)) s = .next { s with pins := p }) ∧
      ∀ d, s.dev = some d → ({ s with pins := p } : State).held = false →
        ∃ d₂, Released p d.recordedState d d₂ ∧
          exec (.warmResetRelease (.pin c)) s = .next { s with pins := p, dev := some d₂ })) ∧
  ∀ (s : State),
    ((∀ d, s.dev = some d → d.cmdReset = false) → exec (.warmResetRelease .command) s = .next s) ∧
    ∀ d, s.dev = some d → d.cmdReset = true →
      (s.pins.nresetLow = true ∨ s.pins.coreAbsent = true →
        exec (.warmResetRelease .command) s = .next (s.withDev { d with cmdReset := false })) ∧
      (s.pins.nresetLow = false → s.pins.coreAbsent = false →
        ∃ d₂, Released s.pins d.recordedState { d with cmdReset := false } d₂ ∧
          exec (.warmResetRelease .command) s = .next (s.withDev d₂))

/-- A cold reset gives every piece of state the value its rule states, with the boot agent from BOOTSEL and the levels now on the inputs. The loss of
the retention supply loses the part, which nothing but a cold reset brings back. THE MODEL'S CHOICE (log 5): the whole part is absent after that
loss, and a cold reset of a part whose supply is present acts as any other (R5, R20, R24, R112, R131, R132, R158, R159, R172). -/
def Obligations.ColdResetAndSupplyLoss : Prop :=
  (∀ (s : State) (b : BitVec 3), ∃ d, exec (.coldReset b) s = .next (s.withDev d) ∧
    (∀ e, (d.slot e).generation = 1) ∧ (∀ e, e ≠ 0 → d.entry e = none) ∧
    d.entry 0 = some
      { key := 0, origin := .defined, sharing := .exclusiveOnly, policy := .ask, defaultTerm := .unbounded
        maxTerm := .unbounded, unboundedAllowed := true, group := none, lifecycle := .live, occupancy := .idle
        holders := [], queue := [] } ∧
    (∀ e a, d.notice e a = {}) ∧
    (∀ g, d.group g =
      { state := .unbound, binding := none, select := .park, settleKnown := false, phase := none
        stdone := tget s.pins.stdoneHigh g }) ∧
    (∀ a : Agent, d.agent a =
      { state := .offline, holdQuota := 16, waitQuota := 4, cap := if a.val = b.toNat then 3 else 2, create := true }) ∧
    (∀ a, d.chan a =
      { state := if s.pins.nresetLow = true ∨ s.pins.coreAbsent = true ∨ tget s.pins.agrstLow a = true then .reset
                 else .ready }) ∧
    d.boot.val = b.toNat ∧ d.ticket = 1 ∧
    d.config = { tickDiv := 25000, window := 2000, plainDef := 1000, plainMax := 60000, plainAsk := true, swTimeout := 20 } ∧
    d.tickPhase = 0 ∧ d.tickPeriod = 25000 ∧ d.issued = [] ∧ d.cmdReset = false ∧ d.reclaimLeft = none ∧
    ∀ a, d.recordedState a = .offline) ∧
  (∀ s : State, exec .retentionSupplyLoss s = .next { s with dev := none }) ∧
  ∀ (s : State) (i : Instr), s.dev = none → (∀ b, i ≠ .coldReset b) → ∃ p, exec i s = .next { s with pins := p }

/-! ### Conditions that every step keeps -/

/-- Every step keeps the names sound: no ticket is 0, every generation is 1 to 255, no two records carry one key, and a notice cell holds a generation
exactly while it has a pending kind (R6, R7, R24, R167). -/
def Obligations.StepsKeepNamesSound : Prop :=
  ∀ s t : State, s.Holds Device.NamesSound → step s = .next t → t.Holds Device.NamesSound

/-- Every step keeps the wait cells in use within the pool of 64, and every wait queue in the order of R61. From a safe state it leaves no
LIVE entry, neither SWITCHING nor FAULTED, with a grantable head, no RETIRING entry with a queue, and the counts of every agent within its quotas
(R58, R61, R75, R103, R134). -/
def Obligations.StepsKeepThePoolAndTheQueues : Prop :=
  ∀ s t : State, step s = .next t →
    (s.Holds Device.PoolBounded → t.Holds Device.PoolBounded) ∧
    (s.Holds Device.QueuesOrdered → t.Holds Device.QueuesOrdered) ∧
    (s.Safe → t.Holds Device.QueuesServed ∧ t.Holds Device.QuotasKept)

/-- Every step keeps holders, queues, sharing class and occupancy of every record in agreement, and every record in agreement with the group bound to
it. From a safe state it keeps the roster in agreement with the records, the notices, the reclaim window and what a held warm reset recorded, and the
channels in agreement with the inputs and the switches in flight; so a safe state steps to a safe state (R2, R4, R62, R65, R114, R121, R133, R174,
R175, R177). -/
def Obligations.StepsKeepRecordsAndGroupsAgreed : Prop :=
  ∀ s t : State, step s = .next t →
    (s.Holds Device.Consistent → t.Holds Device.Consistent) ∧
    (s.Safe → t.Holds Device.RosterSound ∧ t.ChannelsSound ∧ t.Safe)

/-- Every step keeps entry 0 the control lease, with the properties that R5 fixes, and no group bound to it (R5). -/
def Obligations.StepsKeepTheControlLease : Prop :=
  ∀ s t : State, s.Holds Device.ControlLeaseKept → step s = .next t → t.Holds Device.ControlLeaseKept

/-- The state after reset is safe: all the conditions that the steps keep hold in it (R20). -/
def Obligations.ResetIsSafe : Prop := State.reset.Safe
end

