-- ==== Sys2Proof/Laws/State.lean ====
section
/-!
SUPPORT. Tables of a fixed number of rows, and the record updates of the device: one lemma for each field of
each update.
-/
namespace Sys2Proof.Machine

/-! ### Tables -/

@[simp] theorem tget_tset_same {n : Nat} {α : Type} (v : Vector α n) (i : Fin n) (x : α) :
    tget (tset v i x) i = x := by
  simp [tget, tset]

theorem tget_tset {n : Nat} {α : Type} (v : Vector α n) (i j : Fin n) (x : α) :
    tget (tset v i x) j = if i = j then x else tget v j := by
  simp only [tget, tset, Vector.getElem_set, Fin.ext_iff]

@[simp] theorem tget_tset_ne {n : Nat} {α : Type} (v : Vector α n) {i j : Fin n} (x : α) (h : j ≠ i) :
    tget (tset v i x) j = tget v j := by
  rw [tget_tset, if_neg (Ne.symm h)]

@[simp] theorem tset_tget {n : Nat} {α : Type} (v : Vector α n) (i : Fin n) : tset v i (tget v i) = v := by
  simp [tget, tset]

@[simp] theorem tset_tset {n : Nat} {α : Type} (v : Vector α n) (i : Fin n) (x y : α) :
    tset (tset v i x) i y = tset v i y := by
  simp [tset]

@[simp] theorem tget_tabulate {n : Nat} {α : Type} (f : Fin n → α) (i : Fin n) : tget (tabulate f) i = f i := by
  simp [tget, tabulate]

@[simp] theorem tget_replicate {n : Nat} {α : Type} (x : α) (i : Fin n) : tget (Vector.replicate n x) i = x := by
  simp [tget]

theorem table_ext {n : Nat} {α : Type} {v w : Vector α n} (h : ∀ i, tget v i = tget w i) : v = w :=
  Vector.ext fun i hi => h ⟨i, hi⟩

/-! ### Updates -/

variable (d : Device)

@[simp] theorem Device.setSlot_slots (e : EntryIx) (x : Slot) : (d.setSlot e x).slots = tset d.slots e x := rfl
@[simp] theorem Device.setSlot_notices (e : EntryIx) (x : Slot) : (d.setSlot e x).notices = d.notices := rfl
@[simp] theorem Device.setSlot_groups (e : EntryIx) (x : Slot) : (d.setSlot e x).groups = d.groups := rfl
@[simp] theorem Device.setSlot_agents (e : EntryIx) (x : Slot) : (d.setSlot e x).agents = d.agents := rfl
@[simp] theorem Device.setSlot_channels (e : EntryIx) (x : Slot) : (d.setSlot e x).channels = d.channels := rfl
@[simp] theorem Device.setSlot_boot (e : EntryIx) (x : Slot) : (d.setSlot e x).boot = d.boot := rfl
@[simp] theorem Device.setSlot_ticket (e : EntryIx) (x : Slot) : (d.setSlot e x).ticket = d.ticket := rfl
@[simp] theorem Device.setSlot_config (e : EntryIx) (x : Slot) : (d.setSlot e x).config = d.config := rfl
@[simp] theorem Device.setSlot_tickPhase (e : EntryIx) (x : Slot) : (d.setSlot e x).tickPhase = d.tickPhase := rfl
@[simp] theorem Device.setSlot_tickPeriod (e : EntryIx) (x : Slot) : (d.setSlot e x).tickPeriod = d.tickPeriod := rfl
@[simp] theorem Device.setSlot_issued (e : EntryIx) (x : Slot) : (d.setSlot e x).issued = d.issued := rfl
@[simp] theorem Device.setSlot_cmdReset (e : EntryIx) (x : Slot) : (d.setSlot e x).cmdReset = d.cmdReset := rfl
@[simp] theorem Device.setSlot_recorded (e : EntryIx) (x : Slot) : (d.setSlot e x).recorded = d.recorded := rfl
@[simp] theorem Device.setSlot_reclaimLeft (e : EntryIx) (x : Slot) : (d.setSlot e x).reclaimLeft = d.reclaimLeft := rfl

@[simp] theorem Device.setNotice_slots (e : EntryIx) (a : Agent) (x : NoticeCell) : (d.setNotice e a x).slots = d.slots := rfl
@[simp] theorem Device.setNotice_notices (e : EntryIx) (a : Agent) (x : NoticeCell) : (d.setNotice e a x).notices = tset d.notices e (tset (tget d.notices e) a x) := rfl
@[simp] theorem Device.setNotice_groups (e : EntryIx) (a : Agent) (x : NoticeCell) : (d.setNotice e a x).groups = d.groups := rfl
@[simp] theorem Device.setNotice_agents (e : EntryIx) (a : Agent) (x : NoticeCell) : (d.setNotice e a x).agents = d.agents := rfl
@[simp] theorem Device.setNotice_channels (e : EntryIx) (a : Agent) (x : NoticeCell) : (d.setNotice e a x).channels = d.channels := rfl
@[simp] theorem Device.setNotice_boot (e : EntryIx) (a : Agent) (x : NoticeCell) : (d.setNotice e a x).boot = d.boot := rfl
@[simp] theorem Device.setNotice_ticket (e : EntryIx) (a : Agent) (x : NoticeCell) : (d.setNotice e a x).ticket = d.ticket := rfl
@[simp] theorem Device.setNotice_config (e : EntryIx) (a : Agent) (x : NoticeCell) : (d.setNotice e a x).config = d.config := rfl
@[simp] theorem Device.setNotice_tickPhase (e : EntryIx) (a : Agent) (x : NoticeCell) : (d.setNotice e a x).tickPhase = d.tickPhase := rfl
@[simp] theorem Device.setNotice_tickPeriod (e : EntryIx) (a : Agent) (x : NoticeCell) : (d.setNotice e a x).tickPeriod = d.tickPeriod := rfl
@[simp] theorem Device.setNotice_issued (e : EntryIx) (a : Agent) (x : NoticeCell) : (d.setNotice e a x).issued = d.issued := rfl
@[simp] theorem Device.setNotice_cmdReset (e : EntryIx) (a : Agent) (x : NoticeCell) : (d.setNotice e a x).cmdReset = d.cmdReset := rfl
@[simp] theorem Device.setNotice_recorded (e : EntryIx) (a : Agent) (x : NoticeCell) : (d.setNotice e a x).recorded = d.recorded := rfl
@[simp] theorem Device.setNotice_reclaimLeft (e : EntryIx) (a : Agent) (x : NoticeCell) : (d.setNotice e a x).reclaimLeft = d.reclaimLeft := rfl

@[simp] theorem Device.setGroup_slots (g : GroupIx) (x : GroupRec) : (d.setGroup g x).slots = d.slots := rfl
@[simp] theorem Device.setGroup_notices (g : GroupIx) (x : GroupRec) : (d.setGroup g x).notices = d.notices := rfl
@[simp] theorem Device.setGroup_groups (g : GroupIx) (x : GroupRec) : (d.setGroup g x).groups = tset d.groups g x := rfl
@[simp] theorem Device.setGroup_agents (g : GroupIx) (x : GroupRec) : (d.setGroup g x).agents = d.agents := rfl
@[simp] theorem Device.setGroup_channels (g : GroupIx) (x : GroupRec) : (d.setGroup g x).channels = d.channels := rfl
@[simp] theorem Device.setGroup_boot (g : GroupIx) (x : GroupRec) : (d.setGroup g x).boot = d.boot := rfl
@[simp] theorem Device.setGroup_ticket (g : GroupIx) (x : GroupRec) : (d.setGroup g x).ticket = d.ticket := rfl
@[simp] theorem Device.setGroup_config (g : GroupIx) (x : GroupRec) : (d.setGroup g x).config = d.config := rfl
@[simp] theorem Device.setGroup_tickPhase (g : GroupIx) (x : GroupRec) : (d.setGroup g x).tickPhase = d.tickPhase := rfl
@[simp] theorem Device.setGroup_tickPeriod (g : GroupIx) (x : GroupRec) : (d.setGroup g x).tickPeriod = d.tickPeriod := rfl
@[simp] theorem Device.setGroup_issued (g : GroupIx) (x : GroupRec) : (d.setGroup g x).issued = d.issued := rfl
@[simp] theorem Device.setGroup_cmdReset (g : GroupIx) (x : GroupRec) : (d.setGroup g x).cmdReset = d.cmdReset := rfl
@[simp] theorem Device.setGroup_recorded (g : GroupIx) (x : GroupRec) : (d.setGroup g x).recorded = d.recorded := rfl
@[simp] theorem Device.setGroup_reclaimLeft (g : GroupIx) (x : GroupRec) : (d.setGroup g x).reclaimLeft = d.reclaimLeft := rfl

@[simp] theorem Device.setAgent_slots (a : Agent) (x : AgentRec) : (d.setAgent a x).slots = d.slots := rfl
@[simp] theorem Device.setAgent_notices (a : Agent) (x : AgentRec) : (d.setAgent a x).notices = d.notices := rfl
@[simp] theorem Device.setAgent_groups (a : Agent) (x : AgentRec) : (d.setAgent a x).groups = d.groups := rfl
@[simp] theorem Device.setAgent_agents (a : Agent) (x : AgentRec) : (d.setAgent a x).agents = tset d.agents a x := rfl
@[simp] theorem Device.setAgent_channels (a : Agent) (x : AgentRec) : (d.setAgent a x).channels = d.channels := rfl
@[simp] theorem Device.setAgent_boot (a : Agent) (x : AgentRec) : (d.setAgent a x).boot = d.boot := rfl
@[simp] theorem Device.setAgent_ticket (a : Agent) (x : AgentRec) : (d.setAgent a x).ticket = d.ticket := rfl
@[simp] theorem Device.setAgent_config (a : Agent) (x : AgentRec) : (d.setAgent a x).config = d.config := rfl
@[simp] theorem Device.setAgent_tickPhase (a : Agent) (x : AgentRec) : (d.setAgent a x).tickPhase = d.tickPhase := rfl
@[simp] theorem Device.setAgent_tickPeriod (a : Agent) (x : AgentRec) : (d.setAgent a x).tickPeriod = d.tickPeriod := rfl
@[simp] theorem Device.setAgent_issued (a : Agent) (x : AgentRec) : (d.setAgent a x).issued = d.issued := rfl
@[simp] theorem Device.setAgent_cmdReset (a : Agent) (x : AgentRec) : (d.setAgent a x).cmdReset = d.cmdReset := rfl
@[simp] theorem Device.setAgent_recorded (a : Agent) (x : AgentRec) : (d.setAgent a x).recorded = d.recorded := rfl
@[simp] theorem Device.setAgent_reclaimLeft (a : Agent) (x : AgentRec) : (d.setAgent a x).reclaimLeft = d.reclaimLeft := rfl

@[simp] theorem Device.setChan_slots (a : Agent) (x : Channel) : (d.setChan a x).slots = d.slots := rfl
@[simp] theorem Device.setChan_notices (a : Agent) (x : Channel) : (d.setChan a x).notices = d.notices := rfl
@[simp] theorem Device.setChan_groups (a : Agent) (x : Channel) : (d.setChan a x).groups = d.groups := rfl
@[simp] theorem Device.setChan_agents (a : Agent) (x : Channel) : (d.setChan a x).agents = d.agents := rfl
@[simp] theorem Device.setChan_channels (a : Agent) (x : Channel) : (d.setChan a x).channels = tset d.channels a x := rfl
@[simp] theorem Device.setChan_boot (a : Agent) (x : Channel) : (d.setChan a x).boot = d.boot := rfl
@[simp] theorem Device.setChan_ticket (a : Agent) (x : Channel) : (d.setChan a x).ticket = d.ticket := rfl
@[simp] theorem Device.setChan_config (a : Agent) (x : Channel) : (d.setChan a x).config = d.config := rfl
@[simp] theorem Device.setChan_tickPhase (a : Agent) (x : Channel) : (d.setChan a x).tickPhase = d.tickPhase := rfl
@[simp] theorem Device.setChan_tickPeriod (a : Agent) (x : Channel) : (d.setChan a x).tickPeriod = d.tickPeriod := rfl
@[simp] theorem Device.setChan_issued (a : Agent) (x : Channel) : (d.setChan a x).issued = d.issued := rfl
@[simp] theorem Device.setChan_cmdReset (a : Agent) (x : Channel) : (d.setChan a x).cmdReset = d.cmdReset := rfl
@[simp] theorem Device.setChan_recorded (a : Agent) (x : Channel) : (d.setChan a x).recorded = d.recorded := rfl
@[simp] theorem Device.setChan_reclaimLeft (a : Agent) (x : Channel) : (d.setChan a x).reclaimLeft = d.reclaimLeft := rfl

@[simp] theorem Device.modifyEntry_slots (e : EntryIx) (f : Record → Record) : (d.modifyEntry e f).slots = tset d.slots e { d.slot e with record := (d.slot e).record.map f } := rfl
@[simp] theorem Device.modifyEntry_notices (e : EntryIx) (f : Record → Record) : (d.modifyEntry e f).notices = d.notices := rfl
@[simp] theorem Device.modifyEntry_groups (e : EntryIx) (f : Record → Record) : (d.modifyEntry e f).groups = d.groups := rfl
@[simp] theorem Device.modifyEntry_agents (e : EntryIx) (f : Record → Record) : (d.modifyEntry e f).agents = d.agents := rfl
@[simp] theorem Device.modifyEntry_channels (e : EntryIx) (f : Record → Record) : (d.modifyEntry e f).channels = d.channels := rfl
@[simp] theorem Device.modifyEntry_boot (e : EntryIx) (f : Record → Record) : (d.modifyEntry e f).boot = d.boot := rfl
@[simp] theorem Device.modifyEntry_ticket (e : EntryIx) (f : Record → Record) : (d.modifyEntry e f).ticket = d.ticket := rfl
@[simp] theorem Device.modifyEntry_config (e : EntryIx) (f : Record → Record) : (d.modifyEntry e f).config = d.config := rfl
@[simp] theorem Device.modifyEntry_tickPhase (e : EntryIx) (f : Record → Record) : (d.modifyEntry e f).tickPhase = d.tickPhase := rfl
@[simp] theorem Device.modifyEntry_tickPeriod (e : EntryIx) (f : Record → Record) : (d.modifyEntry e f).tickPeriod = d.tickPeriod := rfl
@[simp] theorem Device.modifyEntry_issued (e : EntryIx) (f : Record → Record) : (d.modifyEntry e f).issued = d.issued := rfl
@[simp] theorem Device.modifyEntry_cmdReset (e : EntryIx) (f : Record → Record) : (d.modifyEntry e f).cmdReset = d.cmdReset := rfl
@[simp] theorem Device.modifyEntry_recorded (e : EntryIx) (f : Record → Record) : (d.modifyEntry e f).recorded = d.recorded := rfl
@[simp] theorem Device.modifyEntry_reclaimLeft (e : EntryIx) (f : Record → Record) : (d.modifyEntry e f).reclaimLeft = d.reclaimLeft := rfl

@[simp] theorem Device.setRoster_slots (a : Agent) (x : Roster) : (d.setRoster a x).slots = d.slots := rfl
@[simp] theorem Device.setRoster_notices (a : Agent) (x : Roster) : (d.setRoster a x).notices = d.notices := rfl
@[simp] theorem Device.setRoster_groups (a : Agent) (x : Roster) : (d.setRoster a x).groups = d.groups := rfl
@[simp] theorem Device.setRoster_agents (a : Agent) (x : Roster) : (d.setRoster a x).agents = tset d.agents a { d.agent a with state := x } := rfl
@[simp] theorem Device.setRoster_channels (a : Agent) (x : Roster) : (d.setRoster a x).channels = d.channels := rfl
@[simp] theorem Device.setRoster_boot (a : Agent) (x : Roster) : (d.setRoster a x).boot = d.boot := rfl
@[simp] theorem Device.setRoster_ticket (a : Agent) (x : Roster) : (d.setRoster a x).ticket = d.ticket := rfl
@[simp] theorem Device.setRoster_config (a : Agent) (x : Roster) : (d.setRoster a x).config = d.config := rfl
@[simp] theorem Device.setRoster_tickPhase (a : Agent) (x : Roster) : (d.setRoster a x).tickPhase = d.tickPhase := rfl
@[simp] theorem Device.setRoster_tickPeriod (a : Agent) (x : Roster) : (d.setRoster a x).tickPeriod = d.tickPeriod := rfl
@[simp] theorem Device.setRoster_issued (a : Agent) (x : Roster) : (d.setRoster a x).issued = d.issued := rfl
@[simp] theorem Device.setRoster_cmdReset (a : Agent) (x : Roster) : (d.setRoster a x).cmdReset = d.cmdReset := rfl
@[simp] theorem Device.setRoster_recorded (a : Agent) (x : Roster) : (d.setRoster a x).recorded = d.recorded := rfl
@[simp] theorem Device.setRoster_reclaimLeft (a : Agent) (x : Roster) : (d.setRoster a x).reclaimLeft = d.reclaimLeft := rfl

@[simp] theorem Device.advanceTicket_slots : (d.advanceTicket).slots = d.slots := rfl
@[simp] theorem Device.advanceTicket_notices : (d.advanceTicket).notices = d.notices := rfl
@[simp] theorem Device.advanceTicket_groups : (d.advanceTicket).groups = d.groups := rfl
@[simp] theorem Device.advanceTicket_agents : (d.advanceTicket).agents = d.agents := rfl
@[simp] theorem Device.advanceTicket_channels : (d.advanceTicket).channels = d.channels := rfl
@[simp] theorem Device.advanceTicket_boot : (d.advanceTicket).boot = d.boot := rfl
@[simp] theorem Device.advanceTicket_ticket : (d.advanceTicket).ticket = nextTicket d.ticket := rfl
@[simp] theorem Device.advanceTicket_config : (d.advanceTicket).config = d.config := rfl
@[simp] theorem Device.advanceTicket_tickPhase : (d.advanceTicket).tickPhase = d.tickPhase := rfl
@[simp] theorem Device.advanceTicket_tickPeriod : (d.advanceTicket).tickPeriod = d.tickPeriod := rfl
@[simp] theorem Device.advanceTicket_issued : (d.advanceTicket).issued = d.issued := rfl
@[simp] theorem Device.advanceTicket_cmdReset : (d.advanceTicket).cmdReset = d.cmdReset := rfl
@[simp] theorem Device.advanceTicket_recorded : (d.advanceTicket).recorded = d.recorded := rfl
@[simp] theorem Device.advanceTicket_reclaimLeft : (d.advanceTicket).reclaimLeft = d.reclaimLeft := rfl

@[simp] theorem Device.finish_slots (ch : Agent) (c : Cmd) (r : Results) : (d.finish ch c r).slots = d.slots := rfl
@[simp] theorem Device.finish_notices (ch : Agent) (c : Cmd) (r : Results) : (d.finish ch c r).notices = d.notices := rfl
@[simp] theorem Device.finish_groups (ch : Agent) (c : Cmd) (r : Results) : (d.finish ch c r).groups = d.groups := rfl
@[simp] theorem Device.finish_agents (ch : Agent) (c : Cmd) (r : Results) : (d.finish ch c r).agents = d.agents := rfl
@[simp] theorem Device.finish_channels (ch : Agent) (c : Cmd) (r : Results) : (d.finish ch c r).channels = tset d.channels ch ((d.chan ch).finish (some c) r) := rfl
@[simp] theorem Device.finish_boot (ch : Agent) (c : Cmd) (r : Results) : (d.finish ch c r).boot = d.boot := rfl
@[simp] theorem Device.finish_ticket (ch : Agent) (c : Cmd) (r : Results) : (d.finish ch c r).ticket = d.ticket := rfl
@[simp] theorem Device.finish_config (ch : Agent) (c : Cmd) (r : Results) : (d.finish ch c r).config = d.config := rfl
@[simp] theorem Device.finish_tickPhase (ch : Agent) (c : Cmd) (r : Results) : (d.finish ch c r).tickPhase = d.tickPhase := rfl
@[simp] theorem Device.finish_tickPeriod (ch : Agent) (c : Cmd) (r : Results) : (d.finish ch c r).tickPeriod = d.tickPeriod := rfl
@[simp] theorem Device.finish_issued (ch : Agent) (c : Cmd) (r : Results) : (d.finish ch c r).issued = d.issued := rfl
@[simp] theorem Device.finish_cmdReset (ch : Agent) (c : Cmd) (r : Results) : (d.finish ch c r).cmdReset = d.cmdReset := rfl
@[simp] theorem Device.finish_recorded (ch : Agent) (c : Cmd) (r : Results) : (d.finish ch c r).recorded = d.recorded := rfl
@[simp] theorem Device.finish_reclaimLeft (ch : Agent) (c : Cmd) (r : Results) : (d.finish ch c r).reclaimLeft = d.reclaimLeft := rfl

@[simp] theorem Device.answered_slots (ch : Agent) (c : Cmd) (r : Results) : (d.answered ch c r).slots = d.slots := rfl
@[simp] theorem Device.answered_notices (ch : Agent) (c : Cmd) (r : Results) : (d.answered ch c r).notices = d.notices := rfl
@[simp] theorem Device.answered_groups (ch : Agent) (c : Cmd) (r : Results) : (d.answered ch c r).groups = d.groups := rfl
@[simp] theorem Device.answered_agents (ch : Agent) (c : Cmd) (r : Results) : (d.answered ch c r).agents = d.agents := rfl
@[simp] theorem Device.answered_channels (ch : Agent) (c : Cmd) (r : Results) : (d.answered ch c r).channels = tset d.channels ch ((tget d.channels ch).answer c r) := rfl
@[simp] theorem Device.answered_boot (ch : Agent) (c : Cmd) (r : Results) : (d.answered ch c r).boot = d.boot := rfl
@[simp] theorem Device.answered_ticket (ch : Agent) (c : Cmd) (r : Results) : (d.answered ch c r).ticket = d.ticket := rfl
@[simp] theorem Device.answered_config (ch : Agent) (c : Cmd) (r : Results) : (d.answered ch c r).config = d.config := rfl
@[simp] theorem Device.answered_tickPhase (ch : Agent) (c : Cmd) (r : Results) : (d.answered ch c r).tickPhase = d.tickPhase := rfl
@[simp] theorem Device.answered_tickPeriod (ch : Agent) (c : Cmd) (r : Results) : (d.answered ch c r).tickPeriod = d.tickPeriod := rfl
@[simp] theorem Device.answered_issued (ch : Agent) (c : Cmd) (r : Results) : (d.answered ch c r).issued = d.issued := rfl
@[simp] theorem Device.answered_cmdReset (ch : Agent) (c : Cmd) (r : Results) : (d.answered ch c r).cmdReset = d.cmdReset := rfl
@[simp] theorem Device.answered_recorded (ch : Agent) (c : Cmd) (r : Results) : (d.answered ch c r).recorded = d.recorded := rfl
@[simp] theorem Device.answered_reclaimLeft (ch : Agent) (c : Cmd) (r : Results) : (d.answered ch c r).reclaimLeft = d.reclaimLeft := rfl

@[simp] theorem Device.putRecord_slots (e : EntryIx) (r : Record) : (d.putRecord e r).slots = tset d.slots e { tget d.slots e with record := some r } := rfl
@[simp] theorem Device.putRecord_notices (e : EntryIx) (r : Record) : (d.putRecord e r).notices = d.notices := rfl
@[simp] theorem Device.putRecord_groups (e : EntryIx) (r : Record) : (d.putRecord e r).groups = d.groups := rfl
@[simp] theorem Device.putRecord_agents (e : EntryIx) (r : Record) : (d.putRecord e r).agents = d.agents := rfl
@[simp] theorem Device.putRecord_channels (e : EntryIx) (r : Record) : (d.putRecord e r).channels = d.channels := rfl
@[simp] theorem Device.putRecord_boot (e : EntryIx) (r : Record) : (d.putRecord e r).boot = d.boot := rfl
@[simp] theorem Device.putRecord_ticket (e : EntryIx) (r : Record) : (d.putRecord e r).ticket = d.ticket := rfl
@[simp] theorem Device.putRecord_config (e : EntryIx) (r : Record) : (d.putRecord e r).config = d.config := rfl
@[simp] theorem Device.putRecord_tickPhase (e : EntryIx) (r : Record) : (d.putRecord e r).tickPhase = d.tickPhase := rfl
@[simp] theorem Device.putRecord_tickPeriod (e : EntryIx) (r : Record) : (d.putRecord e r).tickPeriod = d.tickPeriod := rfl
@[simp] theorem Device.putRecord_issued (e : EntryIx) (r : Record) : (d.putRecord e r).issued = d.issued := rfl
@[simp] theorem Device.putRecord_cmdReset (e : EntryIx) (r : Record) : (d.putRecord e r).cmdReset = d.cmdReset := rfl
@[simp] theorem Device.putRecord_recorded (e : EntryIx) (r : Record) : (d.putRecord e r).recorded = d.recorded := rfl
@[simp] theorem Device.putRecord_reclaimLeft (e : EntryIx) (r : Record) : (d.putRecord e r).reclaimLeft = d.reclaimLeft := rfl

/-! ### Reading after writing -/

@[simp] theorem Device.slot_setSlot (e x : EntryIx) (y : Slot) :
    (d.setSlot e y).slot x = if e = x then y else d.slot x := tget_tset ..
@[simp] theorem Device.group_setGroup (g x : GroupIx) (y : GroupRec) :
    (d.setGroup g y).group x = if g = x then y else d.group x := tget_tset ..
@[simp] theorem Device.agent_setAgent (a x : Agent) (y : AgentRec) :
    (d.setAgent a y).agent x = if a = x then y else d.agent x := tget_tset ..
@[simp] theorem Device.chan_setChan (a x : Agent) (y : Channel) :
    (d.setChan a y).chan x = if a = x then y else d.chan x := tget_tset ..

theorem Device.notice_setNotice (e x : EntryIx) (a b : Agent) (y : NoticeCell) :
    (d.setNotice e a y).notice x b = if e = x ∧ a = b then y else d.notice x b := by
  by_cases he : e = x
  · subst he; simp [Device.notice, Device.setNotice, tget_tset]
  · simp [Device.notice, Device.setNotice, tget_tset, he]

theorem Device.entry_modifyEntry (e x : EntryIx) (f : Record → Record) :
    (d.modifyEntry e f).entry x = if e = x then (d.entry x).map f else d.entry x := by
  unfold Device.entry Device.modifyEntry
  rw [Device.slot_setSlot]; split <;> simp_all

theorem Device.generation_modifyEntry (e x : EntryIx) (f : Record → Record) :
    ((d.modifyEntry e f).slot x).generation = (d.slot x).generation := by
  unfold Device.modifyEntry
  rw [Device.slot_setSlot]; split <;> simp_all

end Sys2Proof.Machine
end

