-- ==== Sys2Proof/Laws/Frame.lean ====
section
/-!
SUPPORT. What the shared operations can do: an operation on one entry reaches that entry, its notice cells, its group
and the ticket counter, and nothing else.
-/
namespace Sys2Proof.Machine

namespace OnlyEntry

theorem refl (e : EntryIx) (d : Device) : OnlyEntry e d d where
  slots _ _ := rfl
  notices _ _ _ := rfl
  groups _ _ := rfl
  steered r h := ⟨r, h, rfl⟩
  agents := rfl
  channels := rfl
  boot := rfl
  config := rfl
  tickPhase := rfl
  tickPeriod := rfl
  issued := rfl
  cmdReset := rfl
  recorded := rfl
  reclaimLeft := rfl

theorem trans {e : EntryIx} {d d' d'' : Device} (h : OnlyEntry e d d') (h' : OnlyEntry e d' d'') :
    OnlyEntry e d d'' where
  slots x hx := (h'.slots x hx).trans (h.slots x hx)
  notices x hx a := (h'.notices x hx a).trans (h.notices x hx a)
  groups g hg := by
    refine (h'.groups g fun r hr => ?_).trans (h.groups g hg)
    obtain ⟨r₀, hr₀, hgr⟩ := h.steered r hr
    rw [hgr]; exact hg r₀ hr₀
  steered r hr := by
    obtain ⟨r₁, h₁, g₁⟩ := h'.steered r hr
    obtain ⟨r₀, h₀, g₀⟩ := h.steered r₁ h₁
    exact ⟨r₀, h₀, g₁.trans g₀⟩
  agents := h'.agents.trans h.agents
  channels := h'.channels.trans h.channels
  boot := h'.boot.trans h.boot
  config := h'.config.trans h.config
  tickPhase := h'.tickPhase.trans h.tickPhase
  tickPeriod := h'.tickPeriod.trans h.tickPeriod
  issued := h'.issued.trans h.issued
  cmdReset := h'.cmdReset.trans h.cmdReset
  recorded := h'.recorded.trans h.recorded
  reclaimLeft := h'.reclaimLeft.trans h.reclaimLeft

/-- A fold of operations on one entry. -/
theorem foldl {α : Type} {e : EntryIx} (f : Device → α → Device) (hf : ∀ d x, OnlyEntry e d (f d x))
    (l : List α) (d : Device) : OnlyEntry e d (l.foldl f d) := by
  induction l generalizing d with
  | nil => exact refl e d
  | cons x l ih => exact (hf d x).trans (ih _)

end OnlyEntry

variable (d : Device) (e : EntryIx)

/-- An update of the record that keeps its group. -/
theorem onlyEntry_modifyEntry (f : Record → Record) (hf : ∀ r, (f r).group = r.group) :
    OnlyEntry e d (d.modifyEntry e f) where
  slots x hx := by
    rw [Device.modifyEntry, Device.slot_setSlot, if_neg (Ne.symm hx)]
  notices _ _ _ := rfl
  groups _ _ := rfl
  steered r hr := by
    rw [Device.entry_modifyEntry, if_pos rfl] at hr
    cases h : d.entry e with
    | none => rw [h] at hr; simp at hr
    | some r₀ => rw [h] at hr; simp at hr; exact ⟨r₀, rfl, hr ▸ hf r₀⟩
  agents := rfl
  channels := rfl
  boot := rfl
  config := rfl
  tickPhase := rfl
  tickPeriod := rfl
  issued := rfl
  cmdReset := rfl
  recorded := rfl
  reclaimLeft := rfl

theorem onlyEntry_setNotice (a : Agent) (x : NoticeCell) : OnlyEntry e d (d.setNotice e a x) :=
  { OnlyEntry.refl e d with
    notices := fun y hy b => by
      rw [Device.notice_setNotice, if_neg (fun h => hy h.1.symm)] }

theorem onlyEntry_advanceTicket : OnlyEntry e d d.advanceTicket := { OnlyEntry.refl e d with }

theorem onlyEntry_postGen (a : Agent) (k : NoticeKind) (g : Generation) :
    OnlyEntry e d (d.postGen e a k g) := by
  unfold Device.postGen; split
  · exact onlyEntry_setNotice ..
  · exact OnlyEntry.refl ..

theorem onlyEntry_post (a : Agent) (k : NoticeKind) : OnlyEntry e d (d.post e a k) := onlyEntry_postGen ..

theorem onlyEntry_unpost (a : Agent) (k : NoticeKind) : OnlyEntry e d (d.unpost e a k) := onlyEntry_setNotice ..

theorem onlyEntry_tellAsk (a : Agent) (o : AskOutcome) : OnlyEntry e d (d.tellAsk e a o) := by
  cases o
  · exact OnlyEntry.refl ..
  · exact onlyEntry_post ..
  · exact onlyEntry_unpost ..

theorem onlyEntry_removeCell (a : Agent) : OnlyEntry e d (d.removeCell e a) :=
  onlyEntry_modifyEntry _ _ _ fun _ => rfl

theorem onlyEntry_endGrant (a : Agent) : OnlyEntry e d (d.endGrant e a) :=
  onlyEntry_modifyEntry _ _ _ fun _ => rfl

theorem onlyEntry_addHolder (h : Holder) : OnlyEntry e d (d.addHolder e h) :=
  onlyEntry_modifyEntry _ _ _ fun _ => rfl

theorem onlyEntry_newGrant (a : Agent) (m : GrantMode) (p : Priority) (t : Term) :
    OnlyEntry e d (d.newGrant e a m p t) :=
  (onlyEntry_addHolder ..).trans (onlyEntry_advanceTicket ..)

theorem onlyEntry_convertHolder (a : Agent) (p : Priority) (t : Term) :
    OnlyEntry e d (d.convertHolder e a p t) := by
  unfold Device.convertHolder
  refine OnlyEntry.trans (onlyEntry_modifyEntry _ _ _ ?_) (onlyEntry_advanceTicket ..)
  exact fun _ => rfl

theorem onlyEntry_enqueue (c : WaitCell) : OnlyEntry e d (d.enqueue e c) :=
  onlyEntry_modifyEntry _ _ _ fun _ => rfl

theorem onlyEntry_modifyHolder (a : Agent) (f : Holder → Holder) : OnlyEntry e d (d.modifyHolder e a f) :=
  onlyEntry_modifyEntry _ _ _ fun _ => rfl

/-- An evaluation of an entry (R85). -/
theorem onlyEntry_evaluate : OnlyEntry e d (d.evaluate e) := by
  unfold Device.evaluate; split
  · exact OnlyEntry.refl ..
  · refine OnlyEntry.trans (onlyEntry_modifyEntry _ _ _ ?_) (OnlyEntry.foldl _ ?_ _ _)
    · exact fun _ => rfl
    · exact fun _ _ => onlyEntry_tellAsk ..

theorem onlyEntry_grantCell (c : WaitCell) : OnlyEntry e d (d.grantCell e c) := by
  unfold Device.grantCell; split
  · exact OnlyEntry.refl ..
  · exact (onlyEntry_removeCell ..).trans (onlyEntry_newGrant ..)

theorem onlyEntry_grantQueued (c : WaitCell) : OnlyEntry e d (d.grantQueued e c) :=
  (onlyEntry_grantCell ..).trans (onlyEntry_post ..)

/-- A group record written, where it is the group of the entry. -/
theorem onlyEntry_setGroup {d' : Device} (h : OnlyEntry e d d') {r : Record} (hr : d.entry e = some r)
    {g : GroupIx} (hg : r.group = some g) (x : GroupRec) : OnlyEntry e d (d'.setGroup g x) :=
  { h with
    groups := fun y hy => by
      rw [Device.group_setGroup, if_neg, h.groups y hy]
      rintro rfl; exact hy r hr hg }

/-- A switch started for the entry's own group (R117). -/
theorem onlyEntry_startSwitch {r : Record} (hr : d.entry e = some r) {g : GroupIx} (hg : r.group = some g)
    (t : SwitchTarget) : OnlyEntry e d (d.startSwitch e g t) := by
  unfold Device.startSwitch; split
  · exact OnlyEntry.refl ..
  · refine onlyEntry_setGroup _ _ (onlyEntry_modifyEntry _ _ _ ?_) hr hg _
    exact fun _ => rfl

/-- A run of the grant decision (R70). -/
theorem onlyEntry_grantDecision : OnlyEntry e d (d.grantDecision e) := by
  unfold Device.grantDecision
  split
  · exact OnlyEntry.refl ..
  · rename_i r hr
    split
    · split
      · unfold Device.decideIdle
        split
        · exact OnlyEntry.refl ..
        · split
          · split
            · exact onlyEntry_startSwitch _ _ hr ‹_› _
            · exact OnlyEntry.refl ..
          · split
            · rename_i h
              have he : e = 0 := by simp at h; exact h.1
              subst he
              exact (onlyEntry_newGrant ..).trans (onlyEntry_post ..)
            · exact OnlyEntry.refl ..
      · split
        · unfold Device.decideUpgrade; split
          · exact ((onlyEntry_removeCell ..).trans (onlyEntry_convertHolder ..)).trans (onlyEntry_post ..)
          · exact OnlyEntry.refl ..
        · unfold Device.decideExclusive
          split
          · exact OnlyEntry.refl ..
          · split
            · exact onlyEntry_grantQueued ..
            · split
              · exact onlyEntry_grantQueued ..
              · exact onlyEntry_startSwitch _ _ hr ‹_› _
        · unfold Device.decideShared
          split
          · exact OnlyEntry.refl ..
          · exact OnlyEntry.foldl _ (fun d c => onlyEntry_grantQueued ..) _ _
    · exact OnlyEntry.refl ..

theorem onlyEntry_keepRetireDone : OnlyEntry e d (d.keepRetireDone e) :=
  { OnlyEntry.refl e d with
    notices := fun x hx a => by
      simp [Device.keepRetireDone, Device.notice, tget_tset, Ne.symm hx] }

/-- A drain completion: the record leaves the slot (R105, R106). -/
theorem onlyEntry_drain {r : Record} (hr : d.entry e = some r) (q : Agent) : OnlyEntry e d (d.drain e r q) := by
  have h₁ : OnlyEntry e d (d.unbindGroup r.group) := by
    unfold Device.unbindGroup; split
    · exact OnlyEntry.refl ..
    · exact onlyEntry_setGroup _ _ (OnlyEntry.refl ..) hr ‹_› _
  have h₂ : OnlyEntry e (d.unbindGroup r.group) ((d.unbindGroup r.group).setSlot e
      { generation := nextGeneration (d.slot e).generation, record := none }) :=
    { OnlyEntry.refl e (d.unbindGroup r.group) with
      groups := fun _ _ => rfl
      notices := fun _ _ _ => rfl
      slots := fun x hx => by rw [Device.slot_setSlot, if_neg (Ne.symm hx)]
      steered := fun r' h => by simp [Device.entry] at h }
  exact ((h₁.trans h₂).trans (onlyEntry_keepRetireDone ..)).trans (onlyEntry_postGen ..)

theorem onlyEntry_checkDrain : OnlyEntry e d (d.checkDrain e) := by
  unfold Device.checkDrain
  split
  · exact OnlyEntry.refl ..
  · split
    · exact OnlyEntry.refl ..
    · split
      · exact onlyEntry_drain _ _ ‹_› _
      · exact OnlyEntry.refl ..

/-- An entry handed on (R37, R51, R66, R93). -/
theorem onlyEntry_handOn : OnlyEntry e d (d.handOn e) :=
  ((onlyEntry_grantDecision ..).trans (onlyEntry_checkDrain ..)).trans (onlyEntry_evaluate ..)

/-- While a warm reset is held the device has no control holder (R175). -/
theorem controlHolder_of_recorded {v} (h : d.recorded = some v) : d.controlHolder = none := by
  unfold Device.controlHolder
  rw [h]

/-- The control holder is ONLINE and holds entry 0 EXCLUSIVE, and no warm reset is held (R147, R175). -/
theorem controlHolder_eq_some {a : Agent} (h : d.controlHolder = some a) :
    d.recorded = none ∧ (d.agent a).state = .online ∧
    ∃ r, d.entry 0 = some r ∧ ∃ x ∈ r.holders, x.agent = a ∧ x.mode = .exclusive := by
  unfold Device.controlHolder at h
  split at h
  · cases h
  · cases h
  · rename_i r hr he
    split at h
    · rename_i x hx
      cases h
      have p := List.find?_some hx
      simp only [Bool.decide_and, Bool.and_eq_true, decide_eq_true_eq] at p
      exact ⟨hr, p.2, r, he, x, List.mem_of_find?_eq_some hx, rfl, p.1⟩
    · cases h

/-- A grant revoked and the entry handed on (R92, R93). -/
theorem onlyEntry_revoke (a : Agent) : OnlyEntry e d (d.revoke e a) :=
  ((onlyEntry_endGrant ..).trans (onlyEntry_post ..)).trans (onlyEntry_handOn ..)

end Sys2Proof.Machine
end

