-- ==== Sys2Proof/Laws/Channel.lean ====
section
/-!
SUPPORT. How a command is taken: what a started command comes to, and that the operations on an entry do not look at the
channels, so that a command's answer can be written at its end.
-/
namespace Sys2Proof.Machine

/-- The device with other channels. -/
def Device.withChannels (d : Device) (v : Vector Channel 8) : Device := { d with channels := v }

/-- The device in which command `c` has just started on channel `ch` (R160). -/
def Device.started (d : Device) (ch : Agent) (c : Cmd) : Device := d.setChan ch ((d.chan ch).start c)

/-! ### Operations that do not look at the channels -/

section
variable (d : Device) (v : Vector Channel 8) (e : EntryIx)

@[simp] theorem modifyEntry_withChannels (f : Record → Record) :
    (d.withChannels v).modifyEntry e f = (d.modifyEntry e f).withChannels v := rfl

@[simp] theorem putRecord_withChannels (r : Record) :
    (d.withChannels v).putRecord e r = (d.putRecord e r).withChannels v := rfl

@[simp] theorem setGroup_withChannels (g : GroupIx) (x : GroupRec) :
    (d.withChannels v).setGroup g x = (d.setGroup g x).withChannels v := rfl

@[simp] theorem setAgent_withChannels (a : Agent) (x : AgentRec) :
    (d.withChannels v).setAgent a x = (d.setAgent a x).withChannels v := rfl

@[simp] theorem setRoster_withChannels (a : Agent) (x : Roster) :
    (d.withChannels v).setRoster a x = (d.setRoster a x).withChannels v := rfl

@[simp] theorem setNotice_withChannels (a : Agent) (x : NoticeCell) :
    (d.withChannels v).setNotice e a x = (d.setNotice e a x).withChannels v := rfl

@[simp] theorem endGrant_withChannels (a : Agent) :
    (d.withChannels v).endGrant e a = (d.endGrant e a).withChannels v := rfl

@[simp] theorem removeCell_withChannels (a : Agent) :
    (d.withChannels v).removeCell e a = (d.removeCell e a).withChannels v := rfl

@[simp] theorem newGrant_withChannels (a : Agent) (m : GrantMode) (p : Priority) (t : Term) :
    (d.withChannels v).newGrant e a m p t = (d.newGrant e a m p t).withChannels v := rfl

@[simp] theorem convertHolder_withChannels (a : Agent) (p : Priority) (t : Term) :
    (d.withChannels v).convertHolder e a p t = (d.convertHolder e a p t).withChannels v := rfl

@[simp] theorem postGen_withChannels (a : Agent) (k : NoticeKind) (g : Generation) :
    (d.withChannels v).postGen e a k g = (d.postGen e a k g).withChannels v := by
  unfold Device.postGen
  by_cases h : d.Online a
  · rw [if_pos h, if_pos (show (d.withChannels v).Online a from h)]; rfl
  · rw [if_neg h, if_neg (show ¬ (d.withChannels v).Online a from h)]

@[simp] theorem post_withChannels (a : Agent) (k : NoticeKind) :
    (d.withChannels v).post e a k = (d.post e a k).withChannels v := postGen_withChannels ..

@[simp] theorem unpost_withChannels (a : Agent) (k : NoticeKind) :
    (d.withChannels v).unpost e a k = (d.unpost e a k).withChannels v := rfl

@[simp] theorem tellAsk_withChannels (a : Agent) (o : AskOutcome) :
    (d.withChannels v).tellAsk e a o = (d.tellAsk e a o).withChannels v := by
  cases o
  · rfl
  · exact post_withChannels ..
  · rfl

/-- A fold of operations that do not look at the channels. -/
theorem foldl_withChannels {α : Type} (f : Device → α → Device)
    (hf : ∀ d x, f (d.withChannels v) x = (f d x).withChannels v) (l : List α) :
    l.foldl f (d.withChannels v) = (l.foldl f d).withChannels v := by
  induction l generalizing d with
  | nil => rfl
  | cons x l ih => rw [List.foldl_cons, List.foldl_cons, hf, ih]

@[simp] theorem evaluate_withChannels : (d.withChannels v).evaluate e = (d.evaluate e).withChannels v := by
  unfold Device.evaluate
  change (match d.entry e with | none => _ | some r => _) = _
  cases d.entry e with
  | none => rfl
  | some r =>
    refine foldl_withChannels (d.modifyEntry e _) v
      (fun d' h => d'.tellAsk e h.agent (askOutcome r.policy r.queue (decide (d.Online h.agent)) h)) ?_ r.holders
    exact fun _ _ => tellAsk_withChannels ..

@[simp] theorem grantCell_withChannels (c : WaitCell) :
    (d.withChannels v).grantCell e c = (d.grantCell e c).withChannels v := by
  unfold Device.grantCell
  change (match d.entry e with | none => _ | some r => _) = _
  cases d.entry e <;> rfl

@[simp] theorem grantQueued_withChannels (c : WaitCell) :
    (d.withChannels v).grantQueued e c = (d.grantQueued e c).withChannels v := by
  simp [Device.grantQueued]

@[simp] theorem startSwitch_withChannels (g : GroupIx) (t : SwitchTarget) :
    (d.withChannels v).startSwitch e g t = (d.startSwitch e g t).withChannels v := by
  unfold Device.startSwitch
  change (match (d.group g).binding with | none => _ | some b => _) = _
  cases (d.group g).binding <;> rfl

@[simp] theorem grantDecision_withChannels :
    (d.withChannels v).grantDecision e = (d.grantDecision e).withChannels v := by
  unfold Device.grantDecision
  change (match d.entry e with | none => _ | some r => _) = _
  cases d.entry e with
  | none => rfl
  | some r =>
    dsimp only
    split
    · split
      · unfold Device.decideIdle
        change (if _ then _ else match r.group with
          | some g => if (d.group g).homeDue then _ else _
          | none => if (decide (e = 0) && d.bootEligible) = true then _ else _) = _
        split
        · rfl
        · cases r.group with
          | none => dsimp only; split <;> simp [Device.grantControlLease]; rfl
          | some g => dsimp only; split <;> simp
      · split
        · unfold Device.decideUpgrade; split <;> simp
        · unfold Device.decideExclusive
          split
          · rfl
          · cases r.group with
            | none => simp
            | some g =>
              change (if (d.group g).connects _ = true then _ else _) = _
              dsimp only; split <;> simp
        · unfold Device.decideShared
          split
          · rfl
          · exact foldl_withChannels _ _ _ (fun d c => grantQueued_withChannels ..) _
    · rfl

@[simp] theorem checkDrain_withChannels :
    (d.withChannels v).checkDrain e = (d.checkDrain e).withChannels v := by
  unfold Device.checkDrain
  change (match d.entry e with | none => _ | some r => _) = _
  cases d.entry e with
  | none => rfl
  | some r =>
    dsimp only
    cases r.lifecycle with
    | live => rfl
    | retiring q m =>
      dsimp only
      split
      · unfold Device.drain
        cases r.group with
        | none => exact postGen_withChannels (Device.keepRetireDone (d.setSlot e _) e) v e q _ _
        | some g =>
          exact postGen_withChannels (Device.keepRetireDone ((d.setGroup g (d.group g).unbind).setSlot e _) e) v e q _ _
      · rfl

@[simp] theorem handOn_withChannels : (d.withChannels v).handOn e = (d.handOn e).withChannels v := by
  simp [Device.handOn]

@[simp] theorem revoke_withChannels (a : Agent) :
    (d.withChannels v).revoke e a = (d.revoke e a).withChannels v := by
  simp [Device.revoke]

end

/-! ### A started command -/

section
variable {s : State} {d d₁ : Device} {ch : Agent} {c : Cmd} {w : Writes}

theorem started_eq (d : Device) (ch : Agent) (c : Cmd) :
    d.started ch c = d.withChannels (tset d.channels ch ((d.chan ch).start c)) := rfl

/-- The answer of a command, written at the end of what it did. -/
theorem finish_withChannels {d' : Device} (h : d'.channels = d.channels) (r : Results) :
    (d'.withChannels (tset d.channels ch ((d.chan ch).start c))).finish ch c r = d'.answered ch c r := by
  simp only [Device.finish, Device.setChan, Device.answered, Device.withChannels, Device.chan, tget_tset_same, tset_tset, h]
  rfl

/-- On a live part a meaning acts on the device. -/
theorem onLive_live (h : Live s d) (f : Device → Device) : s.onLive f = .next (s.withDev (f d)) := by
  simp [State.onLive, h.dev, h.free]

/-- A command that starts is judged and answered. -/
theorem commandWrite_starts (h : Starts s d ch c w d₁) (take : Take) :
    commandWrite c take ch w d = writeBack ch c ((d₁.started ch c).judge ch c take) := by
  have hl := h.listens
  have ho := h.only
  have hr := h.ready
  have ha := h.applied
  subst ha
  unfold commandWrite Device.trigger Device.runCommand
  rw [if_neg hl, if_pos ho, if_pos hr]
  rfl

/-- An agent command of an ONLINE agent is taken by its own rule. -/
theorem commandWrite_online (h : StartsOnline s d ch c w d₁) (hc : isControlCommand c = false) (take : Take) :
    commandWrite c take ch w d =
      writeBack ch c (take ch ((d₁.params ch).latch c) (d₁.started ch c)) := by
  rw [commandWrite_starts h.starts]
  have ho : ((d₁.started ch c).agent ch).state = .online := h.online
  have hp : ((d₁.started ch c).chan ch).params = d₁.params ch := by
    simp [Device.started, Device.params, Channel.start]
  unfold Device.judge
  simp [ho, attachCheck, hc, hp]

/-- A control command of the control holder is taken by its own rule. -/
theorem commandWrite_control (h : StartsControl s d ch c w d₁) (take : Take) :
    commandWrite c take ch w d =
      writeBack ch c (take ch ((d₁.params ch).latch c) (d₁.started ch c)) := by
  rw [commandWrite_starts h.starts]
  have ho : ((d₁.started ch c).agent ch).state = .online := h.online
  have hh : (d₁.started ch c).controlHolder = some ch := h.control
  have hp : ((d₁.started ch c).chan ch).params = d₁.params ch := by
    simp [Device.started, Device.params, Channel.start]
  unfold Device.judge
  simp [ho, attachCheck, hh, hp]

end

end Sys2Proof.Machine
end

