-- ==== Sys2Proof/Tests/Slice0.lean ====
section
/-!
SUPPORT. Tests of the model, each of one step with the expected values read from the manual's rules, and for every
statement with hypotheses a state and operands that meet them, at the boundary values of its clauses.
-/
namespace Sys2Proof.Tests
set_option Elab.async false
open Sys2Proof Sys2Proof.Machine

/-! ### Small states -/

/-- The device after a cold reset with 0 on BOOTSEL. -/
def base : Device := .cold 0 .quiet

/-- The state with the device `d`, quiet inputs and an empty queue. -/
def st (d : Device) : State := { pins := .quiet, dev := some d, pending := [] }

/-- The transaction that writes 5Ah to the trigger of `c` and nothing else. -/
def fire (c : Cmd) : Writes := [(c.trigger, 0x5A)]

/-- The device after the other bytes of that transaction. -/
def aft (d : Device) (ch : Agent) (c : Cmd) : Device := d.applyWrites ch (fire c)

/-- `d` with the parameter registers `p` on channel `ch`. -/
def par (d : Device) (ch : Agent) (p : Params) : Device := d.setChan ch { d.chan ch with params := p }

/-- A grant of agent `a`, at priority 1 with 5 ms left. -/
def grant (a : Agent) (m : GrantMode) (t : Ticket) : Holder :=
  { agent := a, mode := m, ticket := t, priority := 1, remaining := .ms 5 }

/-- A cell of agent `a`, without limit, asking for the default term. -/
def cell (a : Agent) (m : WaitMode) (q : Priority) : WaitCell :=
  { agent := a, mode := m, priority := q, term := .ms 0, deadline := none, target := false }

/-- Agents 0 to 3 ONLINE, 4 REJOINING, 5 FENCED, 6 and 7 OFFLINE; agent 0 holds entry 0; the counter stands at 9. -/
def ruled : Device :=
  { base.putRecord 0 { Record.control with holders := [grant 0 .exclusive 1], occupancy := .heldX } with
    agents := tabulate fun a => { AgentRec.cold (a = 0) with
      state := if a.val < 4 then .online else if a = 4 then .rejoining else if a = 5 then .fenced else .offline }
    ticket := 9, reclaimLeft := some 2 }

/-- A PLAIN shared record of agent 1, with key 7, for entry 5. -/
def shared : Record :=
  { newRecord 7 (.plain 1) with sharing := .sharedAllowed, policy := .ask, defaultTerm := .ms 10, maxTerm := .ms 50 }

/-- `ruled` with the record `r` in entry 5, whose handle is 0501h. -/
def five (r : Record) : Device := ruled.putRecord 5 r

/-- `ruled` with a record in entry 6, handle 0601h, that group 1 steers, and the group as given. -/
def steered (r : Record) (x : GroupRec) : Device :=
  (ruled.putRecord 6 { r with sharing := .exclusiveOnly, group := some 0 }).setGroup 0
    { x with binding := some { entry := 6, home := .agent 3, parkPolicy := .home, timeout := 20 } }

/-- A bound group at rest, connecting agent 3. -/
def settled : GroupRec :=
  { state := .settled, binding := none, select := .agent 3, settleKnown := true, phase := none, stdone := false }

/-- A group that switches to agent 1, with `n` ms of its timeout left. -/
def requesting (n : Nat) : GroupRec :=
  { settled with state := .switching, select := .agent 1, settleKnown := false, phase := some (.requesting n) }

/-- A record that switches to agent 1 for its flagged cell. -/
def toOne : Record :=
  { shared with occupancy := .switching (.agent 1), queue := [{ cell 1 .exclusive 2 with target := true }] }

/-- The device after a step of the state `st d`. -/
def run (i : Instr) (d : Device) : Option Device :=
  match exec i (st d) with
  | .next t => t.dev
  | _ => none

/-- The result code on channel `ch` after a command. -/
def code (c : Cmd) (ch : Agent) (d : Device) : Option ResultCode :=
  (run (commandRow c ch (fire c)) d).map fun x => (x.chan ch).results.result

/-! ### When a command starts -/

theorem live_of {d : Device} (h : d.cmdReset = false) : Live (st d) d := ⟨rfl, h⟩

theorem only_fire (c : Cmd) : (triggersIn (fire c)).all (· = c) = true := by cases c <;> decide +kernel

theorem starts {d : Device} {ch : Agent} {c : Cmd}
    (h : d.cmdReset = false ∧ (d.chan ch).state ≠ .reset ∧ ((aft d ch c).chan ch).state = .ready) :
    Starts (st d) d ch c (fire c) (aft d ch c) :=
  ⟨⟨rfl, h.1⟩, h.2.1, only_fire c, rfl, h.2.2⟩

theorem startsOnline {d : Device} {ch : Agent} {c : Cmd}
    (h : (d.cmdReset = false ∧ (d.chan ch).state ≠ .reset ∧ ((aft d ch c).chan ch).state = .ready) ∧
      ((aft d ch c).agent ch).state = .online) :
    StartsOnline (st d) d ch c (fire c) (aft d ch c) :=
  ⟨starts h.1, h.2⟩

theorem startsControl {d : Device} {ch : Agent} {c : Cmd}
    (h : (d.cmdReset = false ∧ (d.chan ch).state ≠ .reset ∧ ((aft d ch c).chan ch).state = .ready) ∧
      ((aft d ch c).agent ch).state = .online ∧ (aft d ch c).controlHolder = some ch) :
    StartsControl (st d) d ch c (fire c) (aft d ch c) :=
  ⟨starts h.1, h.2.1, h.2.2⟩

/-! ### Well-formed steps: one term that each check refuses -/

theorem test_wf_command_with_a_second_trigger :
    (Instr.query 1 (fire .query ++ fire .release)).wf = false := by decide +kernel
theorem test_wf_two_triggers_missing : (Instr.multipleTriggers 1 (fire .query)).wf = false := by decide +kernel
theorem test_wf_ack_beside_abort : (Instr.ack 1 [(0x61, 0x03)]).wf = false := by decide +kernel
theorem test_wf_abort_beside_a_trigger : (Instr.abort 1 (fire .cancel)).wf = false := by decide +kernel
theorem test_wf_attnen_beside_ack : (Instr.attnenWrite 1 3 [(0x61, 0x01)]).wf = false := by decide +kernel
theorem test_wf_viewpage_beside_attnen : (Instr.viewpageWrite 1 2 [(0x62, 0x01)]).wf = false := by decide +kernel
theorem test_wf_registers_reaching_a_trigger :
    (Instr.registerWrite 1 0x63 [0, 0x5A]).wf = false := by decide +kernel

/-! ### Transactions on the link, bit by bit (R181, R182, Tables 63 and 64) -/

theorem test_trigger_addresses :
    Cmd.all.map (fun c => c.trigger.toNat) = (List.range 22).map (· + 0x64) := by decide +kernel

/-- 0110_1001 is a write from 69h, 0101_1010 is 5Ah: REQUEST. -/
theorem test_decode_request_bits :
    decodeLink [false, true, true, false, true, false, false, true, false, true, false, true, true, false, true, false] =
      .write 0x69 [0x5A] ∧
    decodeWrite 2 0x69 [0x5A] = .request 2 [(0x69, 0x5A)] := by decide +kernel
/-- 1110_0000 is a read from 60h. -/
theorem test_decode_read_bits :
    decodeLink [true, true, true, false, false, false, false, false] = .read 0x60 0 := by decide +kernel
/-- Any value but 5Ah starts no command. -/
theorem test_decode_other_value : decodeWrite 2 0x69 [0x5B] = .registerWrite 2 0x69 [0x5B] := by decide +kernel
/-- Bytes go to ascending addresses, here MODE and PRIO, and REQUEST is not reached. -/
theorem test_decode_registers : decodeWrite 3 0x10 [2, 1] = .registerWrite 3 0x10 [2, 1] := by decide +kernel
/-- CONTROL bit 1 is ABORT, bit 0 ACK. -/
theorem test_decode_control :
    decodeWrite 4 0x61 [2] = .abort 4 [(0x61, 2)] ∧ decodeWrite 4 0x61 [1] = .ack 4 [(0x61, 1)] := by decide +kernel
/-- ATTNEN is 62h and VIEWPAGE 63h. -/
theorem test_decode_attnen_viewpage :
    decodeWrite 5 0x62 [3] = .attnenWrite 5 3 [(0x62, 3)] ∧
    decodeWrite 5 0x63 [9] = .viewpageWrite 5 9 [(0x63, 9)] := by decide +kernel
/-- Two triggers of one transaction, 64h and 65h. -/
theorem test_decode_two_triggers :
    decodeWrite 0 0x64 [0x5A, 0x5A] = .multipleTriggers 0 [(0x64, 0x5A), (0x65, 0x5A)] := by decide +kernel
/-- The address after 7Fh is 00h, and the last byte written to an address is the one applied. -/
theorem test_decode_wrap :
    spread 0x7F [1, 2] = [(0x7F, 1), (0x00, 2)] ∧ lastWrite [(0x00, 1), (0x00, 2)] 0x00 = some 2 := by decide +kernel

/-! ### Commands -/

/-- The boot agent's first ATTACH takes the control lease with ticket 1, at priority 3, UNBOUNDED (R135, R151, R24). -/
theorem test_attach_grants_the_control_lease :
    (run (.attach 0 (fire .attach)) base).bind (fun x => (x.entry 0).map (·.holders)) =
      some [{ agent := 0, mode := .exclusive, ticket := 1, priority := 3, remaining := .unbounded }] := by decide +kernel
/-- ATTACH of an ONLINE agent (Table 47). -/
theorem test_attach_online_wrong_state : code .attach 1 ruled = some .wrongState := by decide +kernel

/-- The held entry of the tests: agents 1 and 2 share entry 5 with tickets 2 and 3. -/
def both : Record :=
  { shared with holders := [grant 1 .shared 2, grant 2 .shared 3], occupancy := .heldS }

/-- DETACH ends the agent's grants and leaves the others (R137, R138). -/
theorem test_detach_leaves_the_other_holder :
    (run (.detach 1 (fire .detach)) (five both)).map (fun x => ((x.entry 5).map (·.holders), (x.agent 1).state)) =
      some (some [grant 2 .shared 3], .offline) := by decide +kernel
/-- REJOIN keeps the grant and ends the window with the last REJOINING agent (R177, R178). -/
theorem test_rejoin_keeps_the_grant :
    (run (.rejoin 4 (fire .rejoin)) (five { shared with holders := [grant 4 .exclusive 2], occupancy := .heldX })).map
      (fun x => ((x.entry 5).map (·.holders), (x.agent 4).state, x.reclaimLeft)) =
      some (some [grant 4 .exclusive 2], .online, none) := by decide +kernel
/-- OPEN with create takes the lowest FREE slot, here slot 1: handle 0101h, created (R9, R11). -/
theorem test_open_creates_in_slot_1 :
    (run (.openEntry 1 (fire .openEntry)) (par ruled 1 { key := 0x99, options := 1 })).map
      (fun x => ((x.chan 1).results.handle, (x.chan 1).results.created)) = some (some 0x0101, some true) := by decide +kernel
/-- QUERY under a handle of another generation (R8). -/
theorem test_query_stale_handle :
    code .query 1 (par (five shared) 1 { handle := 0x0502 }) = some .staleHandle := by decide +kernel
/-- REQUEST EXCLUSIVE on an idle entry: the counter's ticket 9, and term 0 becomes the default term 10 (R24, R31, R33). -/
theorem test_request_granted_at_once :
    (run (.request 1 (fire .request)) (par (five shared) 1 { handle := 0x0501, mode := 2, prio := 3 })).map
      (fun x => ((x.entry 5).map (·.holders), (x.chan 1).results.result)) =
      some (some [{ agent := 1, mode := .exclusive, ticket := 9, priority := 2, remaining := .ms 10 }], .granted) := by
  decide +kernel
/-- REQUEST of a second holder in UPGRADE mode with no wait limit given (R31, R35). -/
theorem test_request_upgrade_unavailable :
    code .request 1 (par (five both) 1 { handle := 0x0501, mode := 3 }) = some .unavailable := by decide +kernel

/-- Agent 1 holds entry 5 EXCLUSIVE, and 2 and 3 wait to share it. -/
def queued : Record :=
  { shared with holders := [grant 1 .exclusive 2], occupancy := .heldX, queue := [cell 2 .shared 1, cell 3 .shared 0] }

/-- RELEASE hands the entry on to both, with tickets 9 and 10 in queue order (R25, R36, R73). -/
theorem test_release_grants_the_batch :
    (run (.release 1 (fire .release)) (par (five queued) 1 { handle := 0x0501 })).bind
      (fun x => (x.entry 5).map fun r => r.holders.map fun h => (h.agent, h.ticket)) =
      some [(2, 9), (3, 10)] := by decide +kernel
/-- RENEW with 100 ms is clamped to the max term 50 (R33, R53). -/
theorem test_renew_clamps :
    (run (.renew 1 (fire .renew)) (par (five queued) 1 { handle := 0x0501, term := 100 })).map
      (fun x => (x.chan 1).results.term) = some (some (.ms 50)) := by decide +kernel
/-- DOWNGRADE keeps ticket 2 and lets the waiting sharers in (R40). -/
theorem test_downgrade_keeps_the_ticket :
    (run (.downgrade 1 (fire .downgrade)) (par (five queued) 1 { handle := 0x0501 })).bind
      (fun x => (x.entry 5).map fun r => r.holders.map fun h => (h.agent, h.mode, h.ticket)) =
      some [(1, .shared, 2), (2, .shared, 9), (3, .shared, 10)] := by decide +kernel
/-- CANCEL removes the agent's cell (R66). -/
theorem test_cancel_removes_the_cell :
    (run (.cancel 3 (fire .cancel)) (par (five queued) 3 { handle := 0x0501 })).bind
      (fun x => (x.entry 5).map (·.queue)) = some [cell 2 .shared 1] := by decide +kernel
/-- CHECK of a holder's ticket and of ticket 0 (R41). -/
theorem test_check :
    code .check 3 (par (five queued) 3 { handle := 0x0501, ticket := 2 }) = some .current ∧
    code .check 3 (par (five queued) 3 { handle := 0x0501, ticket := 0 }) = some .stale := by decide +kernel
/-- TAKE NOTICE gives the kinds of the cell and clears it (R169). -/
theorem test_take_notice :
    (run (.takeNotice 1 (fire .takeNotice)) ((five shared).post 5 1 .revoked)).map
      (fun x => ((x.chan 1).results.kinds, (x.notice 5 1).kinds)) =
      some (some { revoked := true }, {}) := by decide +kernel
/-- RETIRE, IMMEDIATE, of the control holder frees the slot under the next generation (R7, R105). -/
theorem test_retire_immediate :
    (run (.retire 0 (fire .retire)) (par (five queued) 0 { handle := 0x0501, mode := 2 })).map (·.slot 5) =
      some { generation := 2, record := none } := by decide +kernel
/-- DEFINE with GROUP 1 binds the group to slot 1 (R13, R115). -/
theorem test_define_binds :
    (run (.define 0 (fire .define)) (par ruled 0 { key := 3, policy := 1, defterm := 1, maxterm := 1, group := 1, home := 8 })).map
      (fun x => ((x.group 0).state, (x.group 0).binding.map (·.entry))) = some (.settled, some 1) := by decide +kernel
/-- AMEND of an entry that is held (R14). -/
theorem test_amend_busy :
    code .amend 0 (par (five both) 0 { handle := 0x0501, defterm := 1, maxterm := 1 }) = some .entryBusy := by decide +kernel
/-- FORCE RELEASE reports the ticket it ended, and its holder finds REVOKED (R95). -/
theorem test_force_release :
    (run (.forceRelease 0 (fire .forceRelease)) (par (five both) 0 { handle := 0x0501, agent := 2 })).map
      (fun x => ((x.chan 0).results.ticket, (x.notice 5 2).kinds)) = some (some 3, { revoked := true }) := by decide +kernel
/-- FENCE departs the agent and reports the grants it released (R142). -/
theorem test_fence :
    (run (.fence 0 (fire .fence)) (par (five both) 0 { agent := 2 })).map
      (fun x => ((x.agent 2).state, (x.chan 0).results.count)) = some (.fenced, some 1) := by decide +kernel
/-- UNFENCE (R143). -/
theorem test_unfence :
    (run (.unfence 0 (fire .unfence)) (par ruled 0 { agent := 5 })).map (fun x => (x.agent 5).state) =
      some .offline := by decide +kernel
/-- SET AGENT below the counts that stand (R144). -/
theorem test_set_agent_in_use :
    code .setAgent 0 (par (five { queued with queue := [cell 2 .shared 1] }) 0 { agent := 2, holdq := 1, waitq := 1 }) =
      some .ok ∧
    code .setAgent 0 (par (((five both).putRecord 7 { both with key := 8 })) 0 { agent := 2, holdq := 1, waitq := 1 }) =
      some .inUse := by decide +kernel
/-- CONFIGURE at the edges of Table 51. -/
theorem test_configure_range :
    code .configure 0 (par ruled 0 { tickdiv := 1000, plaindef := 1, plainmax := 1, defswto := 1 }) = some .ok ∧
    code .configure 0 (par ruled 0 { tickdiv := 999, plaindef := 1, plainmax := 1, defswto := 1 }) = some .badParam := by
  decide +kernel
/-- CLEAR FAULT (R125). -/
theorem test_clear_fault :
    (run (.clearFault 0 (fire .clearFault))
      (par (steered { shared with occupancy := .faulted } { settled with state := .faulted }) 0 { group := 1 })).map
      (fun x => (x.chan 0).results.result) = some .ok := by decide +kernel
/-- WARM RESET writes no completion, and the channel is in RESET (R173). -/
theorem test_warm_reset_command :
    (run (.warmReset 0 (fire .warmReset)) ruled).map (fun x => (x.chan 0, x.cmdReset)) =
      some ({ state := .reset }, true) := by decide +kernel

/-! ### Other writes -/

theorem test_multiple_triggers :
    (run (.multipleTriggers 1 (fire .query ++ fire .release)) ruled).map
      (fun x => ((x.chan 1).results.result, (x.chan 1).completed)) = some (.badParam, none) := by decide +kernel
theorem test_ack :
    (run (.ack 1 []) (ruled.setChan 1 { ruled.chan 1 with complete := true })).map (fun x => (x.chan 1).complete) =
      some false := by decide +kernel
theorem test_attnen_and_viewpage :
    (run (.attnenWrite 1 3 [(0x63, 2)]) ruled).map (fun x => ((x.chan 1).attnen, (x.chan 1).viewPage)) =
      some (3, 2) ∧
    (run (.viewpageWrite 1 7 []) ruled).map (fun x => (x.chan 1).viewPage) = some 7 := by decide +kernel

/-- The read of 12.4.1, from RESULT to R_HANDLE, on entry 5 in place of 14. -/
theorem test_read_after_query :
    (run (.query 3 (fire .query)) (par (five both) 3 { handle := 0x0501 })).bind (fun d => (st d).linkRead 3 0x38 6) =
      some [0x01, 0x68, 0x01, 0x08, 0x01, 0x05] := by decide +kernel

/-- KEY lies at 02h to 05h, least significant byte first (R181). -/
theorem test_register_write :
    (run (.registerWrite 1 0x02 [0x78, 0x56, 0x34, 0x12]) ruled).map (fun x => (x.params 1).key) = some 0x12345678 := by
  decide +kernel

/-- Channel 1 with its REQUEST for entry 6 IN_FLIGHT. -/
def flying (d : Device) : Device :=
  d.setChan 1 { d.chan 1 with state := .inFlight, latched := some ⟨.request, { handle := 0x0601, mode := 2, prio := 2 }⟩ }

/-- ABORT ends the IN_FLIGHT REQUEST, and the switch goes on (R165). -/
theorem test_abort :
    (run (.abort 1 []) (flying (steered toOne (requesting 4)))).map
      (fun x => ((x.chan 1).results.result, (x.entry 6).map (·.queue), (x.group 0).state)) =
      some (.aborted, some [], .switching) := by decide +kernel

/-! ### Pins, timers and resets -/

/-- The state `st d` with AGRST# of agent 2 low on the pin. -/
def stLow (d : Device) : State :=
  { st d with pins := { (st d).pins with agrstLow := tset (st d).pins.agrstLow 2 true } }

/-- The fall is a departure to OFFLINE, and the rise makes the channel READY (R140, R141). -/
theorem test_agrst_fall :
    (run (.agrstFall 2) (five both)).map (fun x => ((x.agent 2).state, (x.chan 2).state)) = some (.offline, .reset) := by
  decide +kernel
theorem test_agrst_rise :
    (match exec (.agrstRise 2) (stLow (ruled.setChan 2 { state := .reset })) with
      | .next t => t.dev.map fun x => (x.chan 2).state
      | _ => none) = some .ready := by decide +kernel
/-- The settle grants the target its cell and completes the IN_FLIGHT REQUEST (R119, R120). -/
theorem test_settle :
    (run (.settle 0) (flying (steered toOne (requesting 4)))).map
      (fun x => ((x.chan 1).results.result, (x.chan 1).results.ticket, (x.group 0).settleKnown)) =
      some (.granted, some 9, true) := by decide +kernel
/-- A rise in phase DEFERRED is no settle (R113). -/
theorem test_stdone_rise_deferred :
    (run (.stdoneRise 0) (steered toOne { requesting 4 with phase := some .deferred })).map (fun x => (x.group 0).state) =
      some .switching := by decide +kernel

/-- The state `st d` with STDONE of group 1 high on the pin. -/
def stHigh (d : Device) : State :=
  { st d with pins := { (st d).pins with stdoneHigh := tset (st d).pins.stdoneHigh 0 true } }

theorem test_stdone_fall_drives :
    (match exec (.stdoneFall 0) (stHigh (steered toOne { settled with
        state := .switching, phase := some .deferred, stdone := true })) with
      | .next t => t.dev.map fun x => ((x.group 0).select, (x.group 0).phase)
      | _ => none) = some (.agent 1, some (.requesting 20)) := by decide +kernel
/-- A timed-out switch (R123). -/
theorem test_switch_timeout :
    (run (.switchTimeout 0) { flying (steered toOne (requesting 0)) with issued := [.switch 0] }).map
      (fun x => ((x.chan 1).results.result, (x.group 0).state)) = some (.steerFault, .faulted) := by decide +kernel
/-- The tick that takes a term from 1 to 0 issues its expiry (R45). -/
theorem test_tick_issues :
    (run .termTick (five { shared with holders := [{ grant 1 .exclusive 2 with remaining := .ms 1 }], occupancy := .heldX })).map
      (fun x => x.issued) = some [.term 5 1 2] := by decide +kernel
theorem test_term_expiry :
    (run (.termExpiry 5 1 2) { five { shared with
        holders := [{ grant 1 .exclusive 2 with remaining := .ms 0 }], occupancy := .heldX } with
        issued := [.term 5 1 2] }).map (fun x => ((x.entry 5).map (·.holders), (x.notice 5 1).kinds)) =
      some (some [], { expired := true }) := by decide +kernel
theorem test_wait_expiry :
    (run (.waitLimitExpiry 5 3) { five { both with queue := [{ cell 3 .exclusive 1 with deadline := some 0 }] } with
        issued := [.wait 5 3] }).map (fun x => ((x.entry 5).map (·.queue), (x.notice 5 3).kinds)) =
      some (some [], { waitEnded := true }) := by decide +kernel
theorem test_grace_expiry :
    (run (.graceExpiry 5 1 2) { five { shared with
        holders := [{ grant 1 .exclusive 2 with asked := true, grace := some 0 }], occupancy := .heldX } with
        issued := [.grace 5 1 2] }).map (fun x => ((x.entry 5).map (·.holders), (x.notice 5 1).kinds)) =
      some (some [], { revoked := true }) := by decide +kernel
theorem test_window_expiry :
    (run .windowExpiry { ruled with issued := [.window] }).map (fun x => ((x.agent 4).state, x.reclaimLeft)) =
      some (.offline, none) := by decide +kernel
/-- A warm reset frees every cell and keeps the grants (R58, R171, Table 60). -/
theorem test_warm_reset_begin :
    (run (.warmResetBegin .nreset) (five queued)).bind (fun x => (x.entry 5).map fun r => (r.queue, r.holders)) =
      some ([], [grant 1 .exclusive 2]) := by decide +kernel

/-- R175: while the reset is held the device has no control holder. -/
theorem test_no_control_holder_while_held :
    ruled.controlHolder = some 0 ∧ ruled.warmBegin.controlHolder = none := by decide +kernel

/-- At the release a holder that was ONLINE is REJOINING, and an agent with nothing is OFFLINE (R176). -/
theorem test_warm_reset_release :
    (run (.warmResetRelease .command) { (five queued).warmBegin with cmdReset := true }).map
      (fun x => ((x.agent 1).state, (x.agent 2).state, x.reclaimLeft)) = some (.rejoining, .offline, some 2000) := by
  decide +kernel
/-- A cold reset gives the boot agent the priority cap 3 (Table 44). -/
theorem test_cold_reset :
    (run (.coldReset 6) ruled).map (fun x => ((x.agent 6).cap, (x.agent 0).cap, x.ticket, x.boot)) =
      some (3, 2, 1, 6) := by decide +kernel
theorem test_retention_supply_loss : (run .retentionSupplyLoss ruled).isNone = true := by decide +kernel

/-! ### States that meet the hypotheses of the statements -/

/-- The command `c` on channel `ch` starts in `st d`, and the device after the other bytes is as `P` says. -/
def Takes (d : Device) (ch : Agent) (c : Cmd) (P : Device → Prop) : Prop :=
  Starts (st d) d ch c (fire c) (aft d ch c) ∧ P (aft d ch c)

/-- `Takes`, from an ONLINE agent. -/
def TakesOnline (d : Device) (ch : Agent) (c : Cmd) (P : Device → Prop) : Prop :=
  StartsOnline (st d) d ch c (fire c) (aft d ch c) ∧ P (aft d ch c)

/-- `Takes`, from the control holder. -/
def TakesControl (d : Device) (ch : Agent) (c : Cmd) (P : Device → Prop) : Prop :=
  StartsControl (st d) d ch c (fire c) (aft d ch c) ∧ P (aft d ch c)

theorem takes {d : Device} {ch : Agent} {c : Cmd} {P : Device → Prop}
    (h : d.cmdReset = false ∧ (d.chan ch).state ≠ .reset ∧ ((aft d ch c).chan ch).state = .ready)
    (p : P (aft d ch c)) : Takes d ch c P := ⟨starts h, p⟩

theorem takesOnline {d : Device} {ch : Agent} {c : Cmd} {P : Device → Prop}
    (h : (d.cmdReset = false ∧ (d.chan ch).state ≠ .reset ∧ ((aft d ch c).chan ch).state = .ready) ∧
      ((aft d ch c).agent ch).state = .online)
    (p : P (aft d ch c)) : TakesOnline d ch c P := ⟨startsOnline h, p⟩

theorem takesControl {d : Device} {ch : Agent} {c : Cmd} {P : Device → Prop}
    (h : (d.cmdReset = false ∧ (d.chan ch).state ≠ .reset ∧ ((aft d ch c).chan ch).state = .ready) ∧
      ((aft d ch c).agent ch).state = .online ∧ (aft d ch c).controlHolder = some ch)
    (p : P (aft d ch c)) : TakesControl d ch c P := ⟨startsControl h, p⟩

/-- The records of a device with two of them. -/
theorem records_of {d : Device} {x : EntryIx} {r₀ r₁ : Record} {P : EntryIx → Record → Prop}
    (none : ∀ e, e ≠ 0 → e ≠ x → d.entry e = none) (e₀ : d.entry 0 = some r₀) (e₁ : d.entry x = some r₁)
    (p₀ : P 0 r₀) (p₁ : P x r₁) : ∀ e r, d.entry e = some r → P e r := by
  intro e r h
  by_cases h₀ : e = 0
  · subst h₀; rw [e₀] at h; cases h; exact p₀
  · by_cases h₁ : e = x
    · subst h₁; rw [e₁] at h; cases h; exact p₁
    · rw [none e h₀ h₁] at h; cases h

theorem keysDistinct_of {d : Device} {x : EntryIx} {r₀ r₁ : Record}
    (none : ∀ e, e ≠ 0 → e ≠ x → d.entry e = none) (e₀ : d.entry 0 = some r₀) (e₁ : d.entry x = some r₁)
    (k : r₀.key ≠ r₁.key) : d.KeysDistinct := by
  intro e e' r r' h h' hk
  have a := records_of (P := fun e r => e = 0 ∧ r = r₀ ∨ e = x ∧ r = r₁) none e₀ e₁ (.inl ⟨rfl, rfl⟩) (.inr ⟨rfl, rfl⟩)
  rcases a e r h with ⟨rfl, rfl⟩ | ⟨rfl, rfl⟩ <;> rcases a e' r' h' with ⟨rfl, rfl⟩ | ⟨rfl, rfl⟩ <;> first | rfl | skip
  · exact absurd hk k
  · exact absurd hk.symm k

/-- The control lease as agent 0 holds it in `ruled`. -/
def lease : Record := { Record.control with holders := [grant 0 .exclusive 1], occupancy := .heldX }

/-- A record as `steered` puts it. -/
def six (r : Record) : Record := { r with sharing := .exclusiveOnly, group := some 0 }

/-! #### The step and the link -/

theorem witness_StepTakesTheFrontCommand :
    ({ st base with pending := [.ack 1 [], .termTick] } : State).pending = .ack 1 [] :: [.termTick] := rfl

theorem witness_EmptyQueueBringsTheOwnEvents :
    let last : Device := { base with tickPhase := 24999 }
    let due : Device := { base with issued := [.window] }
    let cause : Device := { base.warmBegin with cmdReset := true }
    let low : State := { st base with pins := { Pins.quiet with nresetLow := true } }
    (st base).pending = [] ∧ (st cause).dev = some cause ∧ cause.cmdReset = true ∧
    Live (st due) due ∧ due.issued = .window :: [] ∧
    Live (st last) last ∧ last.issued = [] ∧ last.tickPeriod ≤ last.tickPhase + 1 ∧
    Live (st base) base ∧ base.issued = [] ∧ base.tickPhase + 1 < base.tickPeriod ∧
    low.held = true ∧ low.dev = some base ∧ base.cmdReset = false ∧ ({ st base with dev := none } : State).dev = none :=
  ⟨rfl, rfl, rfl, live_of rfl, rfl, live_of rfl, rfl, by decide +kernel, live_of rfl, rfl, by decide +kernel,
    by decide +kernel, rfl, rfl, rfl⟩

theorem witness_LinkBitsSpellATransaction : (List.replicate 7 true).length < 8 := by decide

theorem witness_RegisterWriteSetsTheParameters :
    Live (st base) base ∧ (base.chan 7).state ≠ .reset ∧ (Instr.registerWrite 7 0x2F [1, 2, 3]).wf = true :=
  ⟨live_of rfl, by decide +kernel, by decide +kernel⟩

theorem witness_AttentionAndPageTakeTheValue :
    Live (st base) base ∧ (base.chan 7).state ≠ .reset ∧
    (Instr.attnenWrite 7 0xFF [(0x63, 2), (0x30, 1)]).wf = true ∧ (Instr.viewpageWrite 7 0xFF [(0x30, 1)]).wf = true :=
  ⟨live_of rfl, by decide +kernel, by decide +kernel, by decide +kernel⟩

theorem witness_AckClearsComplete :
    Live (st base) base ∧ (base.chan 7).state ≠ .reset ∧ (Instr.ack 7 [(0x10, 2)]).wf = true :=
  ⟨live_of rfl, by decide +kernel, by decide +kernel⟩

theorem witness_AbortEndsTheInFlightRequest :
    let d := flying (steered toOne (requesting 4))
    Live (st d) d ∧ (d.chan 1).state ≠ .reset ∧ (Instr.abort 1 [(0x61, 1)]).wf = true ∧
    (d.chan 1).state = .inFlight ∧
    (d.chan 1).latched = some ⟨.request, { handle := 0x0601, mode := 2, prio := 2 }⟩ ∧
    d.lookup 0x0601 = .ok (6, six toOne) ∧ (six toOne).isSwitching = true ∧ (six toOne).holders = [] ∧
    (six toOne).cell 1 = some { cell 1 .exclusive 2 with target := true } ∧
    (base.chan 1).state ≠ .inFlight :=
  ⟨live_of rfl, by decide +kernel, by decide +kernel, by decide +kernel, by decide +kernel, by decide +kernel,
    by decide +kernel, rfl, by decide +kernel, by decide +kernel⟩

theorem witness_TriggersThatStartNothing :
    let w := fire .query ++ fire .release
    let d := flying base
    Live (st base) base ∧ (base.chan 1).state ≠ .reset ∧ (Instr.multipleTriggers 1 w).wf = true ∧
    ((base.applyWrites 1 w).chan 1).state = .ready ∧
    Live (st d) d ∧ (d.chan 1).state ≠ .reset ∧ ((d.applyWrites 1 w).chan 1).state ≠ .ready ∧
    ((d.applyWrites 1 (fire .query)).chan 1).state ≠ .ready ∧ (triggersIn (fire .query)).all (· = .query) = true :=
  ⟨live_of rfl, by decide +kernel, by decide +kernel, by decide +kernel, live_of rfl, by decide +kernel,
    by decide +kernel, by decide +kernel, by decide +kernel⟩

theorem witness_LinkIgnoredInReset :
    (∃ d, (st (base.setChan 3 { state := .reset })).dev = some d ∧ (d.chan 3).state = .reset) ∧
    ({ st base with pins := { Pins.quiet with coreAbsent := true } } : State).held = true ∧
    ({ st base with dev := none } : State).dev = none :=
  ⟨⟨_, rfl, by decide +kernel⟩, by decide +kernel, rfl⟩

/-! #### Checks that every command passes first -/

theorem witness_AttachCheckRefuses :
    Takes ruled 5 .takeNotice (fun d₁ => (d₁.agent 5).state = .fenced) ∧
    Takes ruled 6 .query (fun d₁ => (d₁.agent 6).state = .offline) ∧
    Takes ruled 4 .query (fun d₁ => (d₁.agent 4).state = .rejoining) :=
  ⟨takes (by decide +kernel) (by decide +kernel), takes (by decide +kernel) (by decide +kernel),
    takes (by decide +kernel) (by decide +kernel)⟩

theorem witness_ControlCheckRefuses :
    TakesOnline ruled 1 .define fun d₁ =>
      ∀ r, d₁.entry 0 = some r → ∀ h ∈ r.holders, h.agent = 1 → h.mode ≠ .exclusive :=
  takesOnline (by decide +kernel) fun r hr => by
    have e : (aft ruled 1 .define).entry 0 = some lease := by decide +kernel
    rw [e] at hr; cases hr; decide +kernel

theorem witness_HandleCheck_no_handle :
    TakesOnline (par ruled 1 { handle := 0x8001 }) 1 .query (fun d₁ => 127 < (d₁.params 1).handle.toNat / 256) ∧
    TakesOnline (par ruled 1 { handle := 0x0000 }) 1 .query (fun d₁ => (d₁.params 1).handle.toNat % 256 = 0) :=
  ⟨takesOnline (by decide +kernel) (by decide +kernel), takesOnline (by decide +kernel) (by decide +kernel)⟩

theorem witness_HandleCheck_stale :
    TakesOnline (par ruled 1 { handle := 0x7F01 }) 1 .retire (fun d₁ => (d₁.params 1).handle.toNat = 127 * 256 + 1 ∧
      d₁.entry 127 = none) ∧
    TakesControl (par ruled 0 { handle := 0x00FF }) 0 .amend (fun d₁ => (d₁.params 0).handle.toNat = 0 * 256 + 255 ∧
      (d₁.slot 0).generation.toNat ≠ 255) :=
  ⟨takesOnline (by decide +kernel) (by decide +kernel), takesControl (by decide +kernel) (by decide +kernel)⟩

theorem witness_HandleCheck_current :
    TakesOnline (par (ruled.setSlot 127 { generation := 255, record := some shared }) 1 { handle := 0x7FFF }) 1 .check
      (fun d₁ => (d₁.params 1).handle.toNat = 127 * 256 + 255 ∧ d₁.entry 127 = some shared ∧
        (d₁.slot 127).generation.toNat = 255) :=
  takesOnline (by decide +kernel) (by decide +kernel)

/-! #### The grant decision, the yield logic and the drain -/

theorem witness_HeadCellGrantedOrBlocked_exclusive :
    let r : Record := { shared with queue := [cell 2 .exclusive 1] }
    let r' : Record := { shared with queue := [cell 3 .exclusive 1] }
    (five r).entry 5 = some r ∧ r.decidable = true ∧ r.holders = [] ∧ r.group = none ∧
    (steered r' settled).entry 6 = some (six r') ∧ (six r').decidable = true ∧
    ((steered r' settled).group 0).select = .agent 3 ∧ ((steered r' settled).group 0).settleKnown = true := by
  decide +kernel

theorem witness_HeadCellGrantedOrBlocked_upgrade :
    let r : Record := { shared with holders := [grant 1 .shared 2], occupancy := .heldS, queue := [cell 1 .upgrade 1] }
    (five r).entry 5 = some r ∧ r.decidable = true ∧ r.holders = [grant 1 .shared 2] ∧ (grant 1 .shared 2).agent = 1 := by
  decide +kernel

theorem witness_HeadCellGrantedOrBlocked_blocked :
    let u : Record := { both with queue := [cell 1 .upgrade 1] }
    let x : Record := { both with queue := [cell 3 .exclusive 1] }
    (five u).entry 5 = some u ∧ u.decidable = true ∧ u.holders.map (·.agent) ≠ [1] ∧
    (five x).entry 5 = some x ∧ x.decidable = true ∧ x.holders ≠ [] ∧
    (five queued).entry 5 = some queued ∧ queued.decidable = true ∧ (∃ h ∈ queued.holders, h.mode = .exclusive) := by
  decide +kernel

theorem witness_SharedBatchGrantedInOrder :
    let r : Record := { shared with
      holders := [grant 1 .shared 2], occupancy := .heldS
      queue := [cell 2 .shared 1, cell 3 .shared 1, cell 0 .exclusive 1] }
    (five r).entry 5 = some r ∧ r.decidable = true ∧ (∀ h ∈ r.holders, h.mode = .shared) ∧
    (r.queue.map (·.agent)).Nodup := by decide +kernel

theorem witness_GrantDecisionStartsASwitch :
    let r : Record := { shared with queue := [cell 1 .exclusive 1] }
    let d := steered r settled
    let h := steered shared { settled with select := .park, stdone := true }
    d.entry 6 = some (six r) ∧ (six r).decidable = true ∧ (six r).holders = [] ∧
    (d.group 0).binding = some { entry := 6, home := .agent 3, parkPolicy := .home, timeout := 20 } ∧
    (d.group 0).select ≠ .agent 1 ∧ (d.group 0).stdone = false ∧
    h.entry 6 = some (six shared) ∧ (six shared).queue = [] ∧ (h.group 0).select ≠ .agent 3 ∧
    (h.group 0).stdone = true := by decide +kernel

theorem witness_ControlLeaseGoesToTheBootAgent :
    let d := base.setRoster 0 .online
    let full := (d.setAgent 0 { d.agent 0 with holdQuota := 1 }).putRecord 5
      { shared with holders := [grant 0 .shared 2], occupancy := .heldS }
    let last := full.setAgent 0 { full.agent 0 with holdQuota := 2 }
    d.entry 0 = some .control ∧ Record.control.decidable = true ∧ (last.agent last.boot).state = .online ∧
    last.holdCount last.boot + last.nonUpgradeWaits last.boot < (last.agent last.boot).holdQuota ∧
    (full.agent full.boot).holdQuota ≤ full.holdCount full.boot + full.nonUpgradeWaits full.boot ∧
    full.entry 0 = some .control ∧ (base.agent base.boot).state ≠ .online ∧ (five shared).entry 5 = some shared := by
  decide +kernel

theorem witness_GrantDecisionIsOnePass :
    (five queued).entry 5 = some queued ∧ (queued.queue.map (·.agent)).Nodup := by decide +kernel

theorem witness_EvaluationAsksAndWithdraws :
    (five queued).entry 5 = some queued ∧ (queued.holders.map (·.agent)).Nodup ∧ 7 ∉ queued.holders.map (·.agent) := by
  decide +kernel

theorem witness_DrainFreesTheSlot :
    let r : Record := { shared with lifecycle := .retiring 1 .drain }
    let d := ruled.setSlot 5 { generation := 255, record := some r }
    let x : Record := { both with lifecycle := .retiring 6 .drain }
    let w : Record := { toOne with lifecycle := .retiring 1 .drain }
    d.entry 5 = some r ∧ r.holders = [] ∧ r.isSwitching = false ∧ (d.agent 1).state = .online ∧
    (d.notice 5 1).kinds.retireDone = false ∧ (five x).entry 5 = some x ∧ x.holders ≠ [] ∧
    (five w).entry 5 = some w ∧ w.isSwitching = true := by decide +kernel

/-! #### Agents -/

theorem witness_AttachMakesOnline :
    Takes ruled 7 .attach (fun d₁ => (d₁.agent 7).state = .offline ∧ 7 ≠ d₁.boot) ∧
    Takes base 0 .attach (fun d₁ => (d₁.agent 0).state = .offline ∧ 0 = d₁.boot ∧ d₁.entry 0 = some .control ∧
      d₁.holdCount 0 + d₁.nonUpgradeWaits 0 < (d₁.agent 0).holdQuota) ∧
    Takes ruled 1 .attach (fun d₁ => (d₁.agent 1).state = .online) :=
  ⟨takes (by decide +kernel) (by decide +kernel), takes (by decide +kernel) (by decide +kernel),
    takes (by decide +kernel) (by decide +kernel)⟩

/-- The boot agent REJOINING, with the record `r` in entry 0. -/
def bootReturns (r : Record) : Device := (ruled.putRecord 0 r).setRoster 0 .rejoining

theorem witness_AttachGivesUpKeptGrants :
    Takes ruled 4 .attach (fun d₁ => (d₁.agent 4).state = .rejoining ∧ 4 ≠ d₁.boot) ∧
    Takes (bootReturns .control) 0 .attach (fun d₁ => (d₁.agent 0).state = .rejoining ∧ 0 = d₁.boot ∧
      d₁.entry 0 = some .control ∧ Record.control.decidable = true ∧ 1 ≤ (d₁.agent 0).holdQuota) ∧
    Takes (bootReturns lease) 0 .attach (fun d₁ => (d₁.agent 0).state = .rejoining ∧ 0 = d₁.boot ∧
      d₁.entry 0 = some lease ∧ lease.decidable = true ∧ (∀ h ∈ lease.holders, h.agent = 0) ∧ 1 ≤ (d₁.agent 0).holdQuota) ∧
    (let r : Record := { lease with queue := [cell 1 .exclusive 2, cell 3 .exclusive 0] }
     Takes (bootReturns r) 0 .attach (fun d₁ => (d₁.agent 0).state = .rejoining ∧ 0 = d₁.boot ∧ d₁.entry 0 = some r ∧
      r.decidable = true ∧ (∀ h ∈ r.holders, h.agent = 0) ∧ (∀ y ∈ r.queue, y.agent ≠ 0 ∧ y.mode = .exclusive) ∧
      (d₁.agent 1).state = .online)) ∧
    (let r : Record := { lease with holders := [grant 1 .exclusive 1], queue := [cell 2 .exclusive 2] }
     Takes (bootReturns r) 0 .attach (fun d₁ => (d₁.agent 0).state = .rejoining ∧ 0 = d₁.boot ∧ d₁.entry 0 = some r ∧
      r.decidable = true ∧ r.holders ≠ [] ∧ (∀ h ∈ r.holders, h.agent ≠ 0) ∧ ∀ y ∈ r.queue, y.agent ≠ 0 ∧ y.mode = .exclusive)) :=
  ⟨takes (by decide +kernel) (by decide +kernel), takes (by decide +kernel) (by decide +kernel),
    takes (by decide +kernel) (by decide +kernel), takes (by decide +kernel) (by decide +kernel),
    takes (by decide +kernel) (by decide +kernel)⟩

theorem witness_DetachAndFenceDepart :
    TakesOnline (five both) 1 .detach (fun _ => True) ∧
    TakesControl (par ruled 0 { agent := 8 }) 0 .fence (fun d₁ => 7 < (d₁.params 0).agent.toNat) ∧
    TakesControl (par ruled 0 { agent := 0 }) 0 .fence (fun d₁ => (d₁.params 0).agent.toNat = 0) ∧
    TakesControl (par ruled 0 { agent := 5 }) 0 .fence
      (fun d₁ => (d₁.params 0).agent.toNat = 5 ∧ (d₁.agent 5).state = .fenced) ∧
    TakesControl (par ruled 0 { agent := 7 }) 0 .fence
      (fun d₁ => (d₁.params 0).agent.toNat = 7 ∧ (d₁.agent 7).state = .offline) ∧
    TakesControl (par ruled 0 { agent := 4 }) 0 .fence
      (fun d₁ => (d₁.params 0).agent.toNat = 4 ∧ (d₁.agent 4).state = .rejoining) ∧
    TakesControl (par (five both) 0 { agent := 1 }) 0 .fence
      (fun d₁ => (d₁.params 0).agent.toNat = 1 ∧ (d₁.agent 1).state = .online) :=
  ⟨takesOnline (by decide +kernel) trivial, takesControl (by decide +kernel) (by decide +kernel),
    takesControl (by decide +kernel) (by decide +kernel), takesControl (by decide +kernel) (by decide +kernel),
    takesControl (by decide +kernel) (by decide +kernel), takesControl (by decide +kernel) (by decide +kernel),
    takesControl (by decide +kernel) (by decide +kernel)⟩

theorem witness_AgentResetAndItsEnd :
    tget (st ruled).pins.agrstLow 2 = false ∧ Live (st ruled) ruled ∧ (ruled.agent 2).state = .online ∧
    (ruled.agent 4).state = .rejoining ∧ (ruled.agent 5).state = .fenced ∧ (ruled.agent 6).state = .offline ∧
    tget (stLow ruled).pins.agrstLow 2 = true ∧ Live (stLow ruled) ruled ∧
    ({ stLow ruled with dev := none } : State).dev = none :=
  ⟨by decide +kernel, live_of rfl, by decide +kernel, by decide +kernel, by decide +kernel, by decide +kernel,
    by decide +kernel, ⟨rfl, rfl⟩, rfl⟩

theorem witness_WindowExpiryEndsTheWindow :
    Live (st { ruled with issued := [.window] }) { ruled with issued := [.window] } ∧
    Expiry.window ∈ ({ ruled with issued := [.window] } : Device).issued ∧
    (({ ruled with issued := [.window] } : Device).agent 4).state = .rejoining ∧
    Live (st ruled) ruled ∧ Expiry.window ∉ ruled.issued :=
  ⟨live_of rfl, by decide +kernel, by decide +kernel, live_of rfl, by decide +kernel⟩

theorem witness_RejoinKeepsTheGrants :
    Takes ruled 7 .rejoin (fun d₁ => (d₁.agent 7).state = .offline) ∧
    Takes ruled 1 .rejoin (fun d₁ => (d₁.agent 1).state = .online) ∧
    Takes (five { shared with holders := [grant 4 .exclusive 2], occupancy := .heldX }) 4 .rejoin
      (fun d₁ => (d₁.agent 4).state = .rejoining ∧ 4 ≠ d₁.boot) ∧
    Takes (base.setRoster 0 .rejoining) 0 .rejoin (fun d₁ => (d₁.agent 0).state = .rejoining ∧ 0 = d₁.boot ∧
      d₁.entry 0 = some .control ∧ d₁.holdCount 0 + d₁.nonUpgradeWaits 0 < (d₁.agent 0).holdQuota) ∧
    Takes (ruled.setRoster 0 .rejoining) 0 .rejoin (fun d₁ => (d₁.agent 0).state = .rejoining ∧ 0 = d₁.boot ∧
      d₁.entry 0 = some lease ∧ lease.decidable = true ∧ lease.holders ≠ [] ∧ ∀ c ∈ lease.queue, c.mode = .exclusive) :=
  ⟨takes (by decide +kernel) (by decide +kernel), takes (by decide +kernel) (by decide +kernel),
    takes (by decide +kernel) (by decide +kernel), takes (by decide +kernel) (by decide +kernel),
    takes (by decide +kernel) (by decide +kernel)⟩

theorem witness_UnfenceMakesOffline :
    TakesControl (par ruled 0 { agent := 8 }) 0 .unfence (fun d₁ => 7 < (d₁.params 0).agent.toNat) ∧
    TakesControl (par ruled 0 { agent := 7 }) 0 .unfence
      (fun d₁ => (d₁.params 0).agent.toNat = 7 ∧ (d₁.agent 7).state ≠ .fenced) ∧
    TakesControl (par (ruled.setRoster 7 .fenced) 0 { agent := 7 }) 0 .unfence
      (fun d₁ => (d₁.params 0).agent.toNat = 7 ∧ (d₁.agent 7).state = .fenced) :=
  ⟨takesControl (by decide +kernel) (by decide +kernel), takesControl (by decide +kernel) (by decide +kernel),
    takesControl (by decide +kernel) (by decide +kernel)⟩

theorem witness_SetAgentWritesTheConfiguration :
    TakesControl (par ruled 0 { agent := 7, holdq := 33, waitq := 8, cap := 3 }) 0 .setAgent
      (fun d₁ => 32 < (d₁.params 0).holdq.toNat) ∧
    TakesControl (par ((five both).putRecord 7 both) 0 { agent := 2, holdq := 1, waitq := 1, cap := 0 }) 0 .setAgent
      (fun d₁ => (d₁.params 0).agent.toNat = 2 ∧ (d₁.params 0).cap.toNat = 0 ∧ 1 ≤ (d₁.params 0).waitq.toNat ∧
        (d₁.params 0).holdq.toNat < d₁.holdCount 2 + d₁.nonUpgradeWaits 2) ∧
    TakesControl (par (five both) 0 { agent := 2, holdq := 1, waitq := 8, cap := 3 }) 0 .setAgent
      (fun d₁ => (d₁.params 0).agent.toNat = 2 ∧ (d₁.params 0).cap.toNat = 3 ∧ (d₁.params 0).waitq.toNat ≤ 8 ∧
        d₁.holdCount 2 + d₁.nonUpgradeWaits 2 ≤ (d₁.params 0).holdq.toNat ∧
        d₁.waitCount 2 ≤ (d₁.params 0).waitq.toNat) :=
  ⟨takesControl (by decide +kernel) (by decide +kernel), takesControl (by decide +kernel) (by decide +kernel),
    takesControl (by decide +kernel) (by decide +kernel)⟩

theorem witness_ConfigureWritesAllOrNone :
    TakesControl (par ruled 0 { tickdiv := 999, plaindef := 1, plainmax := 1, defswto := 1 }) 0 .configure
      (fun d₁ => (d₁.params 0).tickdiv.toNat < 1000) ∧
    TakesControl (par ruled 0 { tickdiv := 50000, reclaim := 60000, plaindef := 2, plainmax := 1, plainpol := 1, defswto := 1 })
      0 .configure (fun d₁ => let p := d₁.params 0
        ¬ (p.tickdiv.toNat < 1000 ∨ 50000 < p.tickdiv.toNat ∨ 60000 < p.reclaim.toNat ∨ p.plaindef = 0 ∨
          p.plainmax = 0 ∨ 1 < p.plainpol.toNat ∨ p.defswto = 0)) :=
  ⟨takesControl (by decide +kernel) (by decide +kernel), takesControl (by decide +kernel) (by decide +kernel)⟩

/-! #### Records -/

theorem aft_slots (d : Device) (ch : Agent) (c : Cmd) : (aft d ch c).slots = d.slots := by
  have h : writesAbort (fire c) = false := by cases c <;> decide +kernel
  have h' : writesAck (fire c) = false := by cases c <;> decide +kernel
  simp only [aft, Device.applyWrites, h, h']; rfl

theorem entry_ruled : ∀ e, ruled.entry e = if e = 0 then some lease else none := by decide +kernel

/-- The two records of a device with the table of `five r`. -/
theorem entry_five {d : Device} {r : Record} (h : d.slots = (five r).slots) (e : EntryIx) :
    d.entry e = if 5 = e then some r else if e = 0 then some lease else none := by
  rw [← entry_ruled]
  simp only [Device.entry, Device.slot, h, five, Device.putRecord, tget_tset]
  split <;> rfl

theorem keys_five {d : Device} {r : Record} (h : d.slots = (five r).slots) (k : r.key ≠ 0) : d.KeysDistinct :=
  keysDistinct_of (x := 5) (fun e a b => by rw [entry_five h, if_neg (Ne.symm b), if_neg a])
    ((entry_five h 0).trans rfl) ((entry_five h 5).trans rfl) (fun e => k e.symm)

theorem absent_five {d : Device} {r : Record} {k : Key} (h : d.slots = (five r).slots) (a : k ≠ 0) (b : r.key ≠ k) :
    ∀ e x, d.entry e = some x → x.key ≠ k :=
  records_of (x := 5) (P := fun _ x => x.key ≠ k) (fun e a b => by rw [entry_five h, if_neg (Ne.symm b), if_neg a])
    ((entry_five h 0).trans rfl) ((entry_five h 5).trans rfl) (fun e => a e.symm) b

/-- Every slot of `ruled` filled, each with a key of its own. -/
def full : Device :=
  { ruled with slots := tabulate fun e =>
      { generation := 1, record := some { lease with key := BitVec.ofNat 32 e.val } } }

theorem entry_full {d : Device} (h : d.slots = full.slots) (e : EntryIx) :
    d.entry e = some { lease with key := BitVec.ofNat 32 e.val } := by
  simp [Device.entry, Device.slot, h, full]

theorem keys_full {d : Device} (h : d.slots = full.slots) : d.KeysDistinct := by
  intro e e' r r' a a' k
  rw [entry_full h] at a a'; cases a; cases a'
  have k' := congrArg BitVec.toNat k
  simp only [BitVec.toNat_ofNat] at k'
  have := e.isLt
  have := e'.isLt
  exact Fin.ext (by omega)

theorem absent_full {d : Device} {k : Key} (h : d.slots = full.slots) (a : 128 ≤ k.toNat) :
    ∀ e x, d.entry e = some x → x.key ≠ k := by
  intro e x b c
  rw [entry_full h] at b; cases b
  have k' := congrArg BitVec.toNat c
  simp only [BitVec.toNat_ofNat] at k'
  have := e.isLt
  omega

theorem none_free_full {d : Device} (h : d.slots = full.slots) : ∀ e, d.entry e ≠ none := by
  intro e; rw [entry_full h]; simp

/-- A record that is being retired. -/
def leaving : Record := { shared with lifecycle := .retiring 1 .drain }

theorem witness_OpenFindsOrCreates_found :
    TakesOnline (par (five shared) 1 { key := 7, options := 1, sharing := 2 }) 1 .openEntry (fun d₁ => d₁.KeysDistinct ∧
      (d₁.params 1).options.getLsbD 0 = true ∧ 1 < (d₁.params 1).sharing.toNat) ∧
    TakesOnline (par (five shared) 1 { key := 7, sharing := 2 }) 1 .openEntry (fun d₁ => d₁.KeysDistinct ∧
      (d₁.params 1).options.getLsbD 0 = false ∧ d₁.entry 5 = some shared ∧ shared.key = (d₁.params 1).key) ∧
    TakesOnline (par (five leaving) 1 { key := 7, options := 1, sharing := 1 }) 1 .openEntry (fun d₁ => d₁.KeysDistinct ∧
      (d₁.params 1).sharing.toNat ≤ 1 ∧ d₁.entry 5 = some leaving ∧ leaving.key = (d₁.params 1).key) :=
  ⟨takesOnline (by decide +kernel) ⟨keys_five (r := shared) (aft_slots _ _ _) (by decide), by decide +kernel⟩,
    takesOnline (by decide +kernel) ⟨keys_five (r := shared) (aft_slots _ _ _) (by decide), by decide +kernel⟩,
    takesOnline (by decide +kernel) ⟨keys_five (r := leaving) (aft_slots _ _ _) (by decide), by decide +kernel⟩⟩

theorem witness_OpenFindsOrCreates_absent :
    TakesOnline (par (five shared) 1 { key := 8 }) 1 .openEntry (fun d₁ => d₁.KeysDistinct ∧
      (∀ e r, d₁.entry e = some r → r.key ≠ 8) ∧ (d₁.params 1).key = 8 ∧ (d₁.params 1).options.getLsbD 0 = false) ∧
    TakesOnline (par ((five shared).setAgent 1 { (five shared).agent 1 with create := false }) 1 { key := 8, options := 1 })
      1 .openEntry (fun d₁ => d₁.KeysDistinct ∧ (∀ e r, d₁.entry e = some r → r.key ≠ 8) ∧ (d₁.params 1).key = 8 ∧
        (d₁.params 1).options.getLsbD 0 = true ∧ (d₁.agent 1).create = false) ∧
    TakesOnline (par full 1 { key := 128, options := 1 }) 1 .openEntry (fun d₁ => d₁.KeysDistinct ∧
      (∀ e r, d₁.entry e = some r → r.key ≠ 128) ∧ (∀ e, d₁.entry e ≠ none) ∧ (d₁.params 1).key = 128 ∧
      (d₁.params 1).options.getLsbD 0 = true ∧ (d₁.agent 1).create = true) ∧
    TakesOnline (par (five shared) 1 { key := 8, options := 1 }) 1 .openEntry (fun d₁ => d₁.KeysDistinct ∧
      (∀ e r, d₁.entry e = some r → r.key ≠ 8) ∧ (d₁.params 1).key = 8 ∧ (d₁.params 1).options.getLsbD 0 = true ∧
      (d₁.agent 1).create = true ∧ d₁.entry 1 = none ∧ ∀ x < 1, d₁.entry x ≠ none) :=
  ⟨takesOnline (by decide +kernel) ⟨keys_five (r := shared) (aft_slots _ _ _) (by decide),
      absent_five (r := shared) (aft_slots _ _ _) (by decide) (by decide), by decide +kernel⟩,
    takesOnline (by decide +kernel) ⟨keys_five (r := shared) (aft_slots _ _ _) (by decide),
      absent_five (r := shared) (aft_slots _ _ _) (by decide) (by decide), by decide +kernel⟩,
    takesOnline (by decide +kernel) ⟨keys_full (aft_slots _ _ _), absent_full (aft_slots _ _ _) (by decide),
      none_free_full (aft_slots _ _ _), by decide +kernel⟩,
    takesOnline (by decide +kernel) ⟨keys_five (r := shared) (aft_slots _ _ _) (by decide),
      absent_five (r := shared) (aft_slots _ _ _) (by decide) (by decide), by decide +kernel⟩⟩

theorem witness_QueryShowsTheRecord :
    TakesOnline (par (five both) 3 { handle := 0x0501 }) 3 .query (fun d₁ =>
      d₁.lookup (d₁.params 3).handle = .ok (5, both)) ∧
    (both.holders.map (·.agent)).Nodup ∧ grant 2 .shared 3 ∈ both.holders ∧ both.heldBy 7 = false :=
  ⟨takesOnline (by decide +kernel) (by decide +kernel), by decide +kernel⟩

/-- Consistent parameters at the upper edges of Table 11. -/
def good : Params := { key := 8, policy := 2, grace := 4095, defterm := 65535, maxterm := 65535, home := 9, parkpol := 2 }

theorem witness_ParametersAreCheckedForConsistency :
    TakesControl (par ruled 0 { good with grace := 4096 }) 0 .define (fun d₁ => (d₁.params 0).Inconsistent) ∧
    TakesControl (par ruled 0 { good with maxterm := 65534 }) 0 .define (fun d₁ => (d₁.params 0).Inconsistent) ∧
    TakesControl (par ruled 0 { good with group := 4 }) 0 .define (fun d₁ => (d₁.params 0).Inconsistent) ∧
    TakesControl (par ruled 0 good) 0 .define (fun d₁ => ¬ (d₁.params 0).Inconsistent) ∧
    TakesControl (par (five shared) 0 { good with handle := 0x0501, maxterm := 0xFFFFFFFF }) 0 .amend (fun d₁ =>
      (d₁.params 0).Inconsistent ∧ d₁.lookup (d₁.params 0).handle = .ok (5, shared)) := by
  unfold Params.Inconsistent badTerm
  exact ⟨takesControl (by decide +kernel) (by decide +kernel), takesControl (by decide +kernel) (by decide +kernel),
    takesControl (by decide +kernel) (by decide +kernel), takesControl (by decide +kernel) (by decide +kernel),
    takesControl (by decide +kernel) (by decide +kernel)⟩

/-- Entry 5 steered by group 1. -/
def bound (r : Record) : Device :=
  (five { r with sharing := .exclusiveOnly, group := some 0 }).setGroup 0
    { settled with binding := some { entry := 5, home := .agent 3, parkPolicy := .home, timeout := 20 } }

theorem witness_DefineCreatesAndBinds_refused :
    TakesControl (par (five shared) 0 { good with key := 7 }) 0 .define (fun d₁ => d₁.KeysDistinct ∧
      ¬ (d₁.params 0).Inconsistent ∧ d₁.entry 5 = some shared ∧ shared.key = (d₁.params 0).key) ∧
    TakesControl (par (five leaving) 0 { good with key := 7 }) 0 .define (fun d₁ => d₁.KeysDistinct ∧
      ¬ (d₁.params 0).Inconsistent ∧ d₁.entry 5 = some leaving ∧ leaving.key = (d₁.params 0).key) ∧
    TakesControl (par (bound shared) 0 { good with home := 8, parkpol := 1, group := 1 }) 0 .define (fun d₁ =>
      d₁.KeysDistinct ∧ (∀ e r, d₁.entry e = some r → r.key ≠ 8) ∧ (d₁.params 0).key = 8 ∧
      ¬ (d₁.params 0).Inconsistent ∧ (d₁.params 0).group.toNat = 1 ∧
      (d₁.group 0).binding = some { entry := 5, home := .agent 3, parkPolicy := .home, timeout := 20 }) ∧
    TakesControl (par full 0 { good with key := 128 }) 0 .define (fun d₁ => d₁.KeysDistinct ∧
      (∀ e r, d₁.entry e = some r → r.key ≠ 128) ∧ (∀ e, d₁.entry e ≠ none) ∧ (d₁.params 0).key = 128 ∧
      ¬ (d₁.params 0).Inconsistent ∧
      ∀ g : GroupIx, (d₁.params 0).group.toNat = g.val + 1 → (d₁.group g).binding = none) := by
  unfold Params.Inconsistent badTerm
  exact ⟨takesControl (by decide +kernel) ⟨keys_five (r := shared) (aft_slots _ _ _) (by decide), by decide +kernel⟩,
    takesControl (by decide +kernel) ⟨keys_five (r := leaving) (aft_slots _ _ _) (by decide), by decide +kernel⟩,
    takesControl (by decide +kernel)
      ⟨keys_five (r := { shared with sharing := .exclusiveOnly, group := some 0 }) (aft_slots _ _ _) (by decide),
        absent_five (r := { shared with sharing := .exclusiveOnly, group := some 0 }) (aft_slots _ _ _) (by decide) (by decide),
        by decide +kernel⟩,
    takesControl (by decide +kernel) ⟨keys_full (aft_slots _ _ _), absent_full (aft_slots _ _ _) (by decide),
      none_free_full (aft_slots _ _ _), by decide +kernel⟩⟩

theorem witness_DefineCreatesAndBinds_created :
    TakesControl (par (five shared) 0 good) 0 .define (fun d₁ => d₁.KeysDistinct ∧
      (∀ e r, d₁.entry e = some r → r.key ≠ 8) ∧ (d₁.params 0).key = 8 ∧ ¬ (d₁.params 0).Inconsistent ∧
      d₁.entry 1 = none ∧ (∀ x < 1, d₁.entry x ≠ none) ∧ (d₁.params 0).group = 0) ∧
    TakesControl (par (five shared) 0 { good with group := 4, home := 7, parkpol := 1, swtimeout := 255 }) 0 .define (fun d₁ =>
      d₁.KeysDistinct ∧ (∀ e r, d₁.entry e = some r → r.key ≠ 8) ∧
      (d₁.params 0).Steers 1 d₁.config.swTimeout 3 { entry := 1, home := .agent 7, parkPolicy := .home, timeout := 255 } ∧
      (d₁.params 0).key = 8 ∧ ¬ (d₁.params 0).Inconsistent ∧
      d₁.entry 1 = none ∧ (∀ x < 1, d₁.entry x ≠ none) ∧ (d₁.group 3).binding = none) := by
  unfold Params.Inconsistent badTerm
  exact ⟨takesControl (by decide +kernel) ⟨keys_five (r := shared) (aft_slots _ _ _) (by decide),
      absent_five (r := shared) (aft_slots _ _ _) (by decide) (by decide), by decide +kernel⟩,
    takesControl (by decide +kernel) ⟨keys_five (r := shared) (aft_slots _ _ _) (by decide),
      absent_five (r := shared) (aft_slots _ _ _) (by decide) (by decide),
      ⟨by decide +kernel, rfl, .inr ⟨7, by decide +kernel, rfl⟩, by decide +kernel, by decide +kernel⟩, by decide +kernel⟩⟩

/-- A DEFINED record of entry 5. -/
def defined : Record := { shared with origin := .defined }

theorem witness_AmendWritesTheRecord_refused :
    TakesControl (par (five shared) 0 { good with handle := 0x0501, options := 2 }) 0 .amend (fun d₁ =>
      d₁.lookup (d₁.params 0).handle = .ok (5, shared) ∧ ¬ (d₁.params 0).Inconsistent ∧
      shared.origin ≠ .defined ∧ (d₁.params 0).options.getLsbD 1 = true) ∧
    TakesControl (par (five leaving) 0 { good with handle := 0x0501 }) 0 .amend (fun d₁ =>
      d₁.lookup (d₁.params 0).handle = .ok (5, leaving) ∧ ¬ (d₁.params 0).Inconsistent ∧
      (d₁.params 0).options.getLsbD 1 = false ∧ leaving.lifecycle ≠ .live) ∧
    TakesControl (par (five both) 0 { good with handle := 0x0501 }) 0 .amend (fun d₁ =>
      d₁.lookup (d₁.params 0).handle = .ok (5, both) ∧ ¬ (d₁.params 0).Inconsistent ∧
      (d₁.params 0).options.getLsbD 1 = false ∧ both.lifecycle = .live ∧ both.occupancy ≠ .idle) ∧
    TakesControl (par ((steered shared settled).putRecord 5 defined) 0
        { good with handle := 0x0501, group := 1, home := 8, parkpol := 0 }) 0 .amend (fun d₁ =>
      d₁.lookup (d₁.params 0).handle = .ok (5, defined) ∧ ¬ (d₁.params 0).Inconsistent ∧ defined.occupancy = .idle ∧
      (d₁.params 0).group.toNat = 1 ∧
      (d₁.group 0).binding = some { entry := 6, home := .agent 3, parkPolicy := .home, timeout := 20 }) := by
  unfold Params.Inconsistent badTerm
  exact ⟨takesControl (by decide +kernel) (by decide +kernel), takesControl (by decide +kernel) (by decide +kernel),
    takesControl (by decide +kernel) (by decide +kernel), takesControl (by decide +kernel) (by decide +kernel)⟩

theorem witness_AmendWritesTheRecord_written :
    TakesControl (par (five defined) 0 { good with handle := 0x0501, options := 2, maxterm := 0xFFFFFFFF }) 0 .amend (fun d₁ =>
      d₁.lookup (d₁.params 0).handle = .ok (5, defined) ∧ ¬ (d₁.params 0).Inconsistent ∧ defined.lifecycle = .live ∧
      defined.occupancy = .idle ∧ defined.queue = [] ∧ (d₁.params 0).group = 0) ∧
    TakesControl (par (bound defined) 0 { good with handle := 0x0501, group := 1, home := 8, parkpol := 1 }) 0 .amend (fun d₁ =>
      (d₁.params 0).Steers 5 d₁.config.swTimeout 0 { entry := 5, home := .park, parkPolicy := .home, timeout := 20 } ∧
      d₁.lookup (d₁.params 0).handle = .ok (5, { defined with sharing := .exclusiveOnly, group := some 0 }) ∧
      ¬ (d₁.params 0).Inconsistent ∧
      (d₁.group 0).binding = some { entry := 5, home := .agent 3, parkPolicy := .home, timeout := 20 }) ∧
    TakesControl (par (bound defined) 0 { good with handle := 0x0501, group := 4, home := 0, parkpol := 0 }) 0 .amend (fun d₁ =>
      (d₁.params 0).Steers 5 d₁.config.swTimeout 3 { entry := 5, home := .agent 0, parkPolicy := .stay, timeout := 20 } ∧
      d₁.lookup (d₁.params 0).handle = .ok (5, { defined with sharing := .exclusiveOnly, group := some 0 }) ∧
      ¬ (d₁.params 0).Inconsistent ∧ (d₁.group 3).binding = none) := by
  unfold Params.Inconsistent badTerm
  exact ⟨takesControl (by decide +kernel) (by decide +kernel),
    takesControl (by decide +kernel)
      ⟨⟨by decide +kernel, rfl, .inl (by decide +kernel), by decide +kernel, by decide +kernel⟩, by decide +kernel⟩,
    takesControl (by decide +kernel)
      ⟨⟨by decide +kernel, rfl, .inr ⟨0, by decide +kernel, rfl⟩, by decide +kernel, by decide +kernel⟩, by decide +kernel⟩⟩

theorem witness_AmendOfTheControlLease :
    TakesControl (par ruled 0 { handle := 1, policy := 0 }) 0 .amend (fun d₁ =>
      d₁.lookup (d₁.params 0).handle = .ok (0, lease) ∧ (d₁.params 0).policy = 0) ∧
    TakesControl (par ruled 0 { handle := 1, policy := 2, grace := 4096 }) 0 .amend (fun d₁ =>
      d₁.lookup (d₁.params 0).handle = .ok (0, lease) ∧ (d₁.params 0).policy = 2 ∧ 4095 < (d₁.params 0).grace.toNat) ∧
    TakesControl (par ruled 0 { handle := 1, policy := 1 }) 0 .amend (fun d₁ =>
      d₁.lookup (d₁.params 0).handle = .ok (0, lease) ∧ (d₁.params 0).policy = 1) ∧
    TakesControl (par ruled 0 { handle := 1, policy := 2, grace := 4095 }) 0 .amend (fun d₁ =>
      d₁.lookup (d₁.params 0).handle = .ok (0, lease) ∧ (d₁.params 0).policy = 2 ∧ (d₁.params 0).grace.toNat = 4095) :=
  ⟨takesControl (by decide +kernel) (by decide +kernel), takesControl (by decide +kernel) (by decide +kernel),
    takesControl (by decide +kernel) (by decide +kernel), takesControl (by decide +kernel) (by decide +kernel)⟩

/-! #### Requests and grants -/

theorem names {d : Device} {ch : Agent} {e : EntryIx} {r : Record} {m : WaitMode} {q : Priority} {t : Term}
    (h : d.lookup (d.params ch).handle = .ok (e, r) ∧ requestMode (d.params ch).mode = some m ∧
      priorityOf (d.params ch).prio = some q ∧ requestedTerm (d.params ch).term = some t) :
    RequestNames d ch e r m q t := ⟨h.1, h.2.1, h.2.2.1, h.2.2.2⟩

theorem passes {d : Device} {ch : Agent} {r : Record} {m : WaitMode}
    (h : r.lifecycle = .live ∧ (m = .exclusive ∨ r.sharing = .sharedAllowed) ∧
      (if m = .upgrade then (r.holder ch).map (·.mode) = some .shared else r.heldBy ch = false) ∧
      r.waitedBy ch = false ∧ (m = .upgrade → ∀ c ∈ r.queue, c.mode ≠ .upgrade) ∧
      (m ≠ .upgrade → d.holdCount ch + d.nonUpgradeWaits ch < (d.agent ch).holdQuota)) :
    RequestPasses d ch r m := ⟨h.1, h.2.1, h.2.2.1, h.2.2.2.1, h.2.2.2.2.1, h.2.2.2.2.2⟩

/-- REQUEST parameters for the handle `h`. -/
def ask (h : Handle) (m : Byte) (limit : BitVec 16) : Params :=
  { handle := h, mode := m, prio := 3, term := 65535, waitlim := limit }

/-- The conditions of `Obligations.RequestRefusalsInOrder`, in its order. -/
def refusals (d : Device) (ch : Agent) (r : Record) (m : WaitMode) : List Bool :=
  [r.lifecycle ≠ .live, m ≠ .exclusive ∧ r.sharing = .exclusiveOnly,
   r.heldBy ch = true ∧ ¬ (m = .upgrade ∧ (r.holder ch).map (·.mode) = some .shared),
   m = .upgrade ∧ r.heldBy ch = false, r.waitedBy ch = true, m = .upgrade ∧ ∃ c ∈ r.queue, c.mode = .upgrade,
   m ≠ .upgrade ∧ (d.agent ch).holdQuota ≤ d.holdCount ch + d.nonUpgradeWaits ch]

theorem witness_RequestRefusalsInOrder_form :
    TakesOnline (par (five shared) 1 { ask 0x0501 4 0 with prio := 0 }) 1 .request (fun d₁ =>
      d₁.lookup (d₁.params 1).handle = .ok (5, shared) ∧ 3 < (d₁.params 1).mode.toNat) ∧
    TakesOnline (par (five shared) 1 { ask 0x0501 1 0 with prio := 4 }) 1 .request (fun d₁ =>
      d₁.lookup (d₁.params 1).handle = .ok (5, shared) ∧ 3 < (d₁.params 1).prio.toNat) ∧
    TakesOnline (par (five shared) 1 { ask 0x0501 1 0 with term := 65536 }) 1 .request (fun d₁ =>
      d₁.lookup (d₁.params 1).handle = .ok (5, shared) ∧ 65535 < (d₁.params 1).term.toNat ∧
      (d₁.params 1).term ≠ 0xFFFFFFFF) :=
  ⟨takesOnline (by decide +kernel) (by decide +kernel), takesOnline (by decide +kernel) (by decide +kernel),
    takesOnline (by decide +kernel) (by decide +kernel)⟩

theorem witness_RequestRefusalsInOrder_table :
    TakesOnline (par (five leaving) 1 (ask 0x0501 2 0)) 1 .request (fun d₁ =>
      RequestNames d₁ 1 5 leaving .exclusive 3 (.ms 65535) ∧ (refusals d₁ 1 leaving .exclusive).take 1 = [true]) ∧
    TakesOnline (par (five { shared with sharing := .exclusiveOnly }) 1 (ask 0x0501 1 0)) 1 .request (fun d₁ =>
      RequestNames d₁ 1 5 { shared with sharing := .exclusiveOnly } .shared 3 (.ms 65535) ∧
      (refusals d₁ 1 { shared with sharing := .exclusiveOnly } .shared).take 2 = [false, true]) ∧
    TakesOnline (par (five queued) 1 (ask 0x0501 3 0)) 1 .request (fun d₁ =>
      RequestNames d₁ 1 5 queued .upgrade 3 (.ms 65535) ∧
      (refusals d₁ 1 queued .upgrade).take 3 = [false, false, true]) ∧
    TakesOnline (par (five both) 3 (ask 0x0501 3 0)) 3 .request (fun d₁ =>
      RequestNames d₁ 3 5 both .upgrade 3 (.ms 65535) ∧
      (refusals d₁ 3 both .upgrade).take 4 = [false, false, false, true]) ∧
    TakesOnline (par (five queued) 3 (ask 0x0501 2 0)) 3 .request (fun d₁ =>
      RequestNames d₁ 3 5 queued .exclusive 3 (.ms 65535) ∧
      (refusals d₁ 3 queued .exclusive).take 5 = [false, false, false, false, true]) ∧
    TakesOnline (par (five { both with queue := [cell 2 .upgrade 0] }) 1 (ask 0x0501 3 0)) 1 .request (fun d₁ =>
      RequestNames d₁ 1 5 { both with queue := [cell 2 .upgrade 0] } .upgrade 3 (.ms 65535) ∧
      (refusals d₁ 1 { both with queue := [cell 2 .upgrade 0] } .upgrade).take 6 =
        [false, false, false, false, false, true]) ∧
    TakesOnline (par ((five both).setAgent 0 { (five both).agent 0 with holdQuota := 1 }) 0 (ask 0x0501 1 0)) 0 .request
      (fun d₁ => RequestNames d₁ 0 5 both .shared 3 (.ms 65535) ∧
        refusals d₁ 0 both .shared = [false, false, false, false, false, false, true]) :=
  ⟨takesOnline (by decide +kernel) ⟨names (by decide +kernel), by decide +kernel⟩,
    takesOnline (by decide +kernel) ⟨names (by decide +kernel), by decide +kernel⟩,
    takesOnline (by decide +kernel) ⟨names (by decide +kernel), by decide +kernel⟩,
    takesOnline (by decide +kernel) ⟨names (by decide +kernel), by decide +kernel⟩,
    takesOnline (by decide +kernel) ⟨names (by decide +kernel), by decide +kernel⟩,
    takesOnline (by decide +kernel) ⟨names (by decide +kernel), by decide +kernel⟩,
    takesOnline (by decide +kernel) ⟨names (by decide +kernel), by decide +kernel⟩⟩

/-- Agent 1 alone shares entry 5. -/
def alone : Record := { shared with holders := [grant 1 .shared 2], occupancy := .heldS }

theorem witness_RequestServedAtOnce :
    TakesOnline (par { five shared with ticket := 0xFFFFFFFF } 1 (ask 0x0501 2 0)) 1 .request (fun d₁ =>
      RequestNames d₁ 1 5 shared .exclusive 3 (.ms 65535) ∧ RequestPasses d₁ 1 shared .exclusive ∧
      shared.occupancy = .idle ∧ shared.holders = [] ∧ shared.queue = [] ∧ shared.group = none) ∧
    TakesOnline (par (steered shared settled) 3 (ask 0x0601 2 0)) 3 .request (fun d₁ =>
      RequestNames d₁ 3 6 (six shared) .exclusive 3 (.ms 65535) ∧ RequestPasses d₁ 3 (six shared) .exclusive ∧
      (d₁.group 0).select = .agent 3 ∧ (d₁.group 0).settleKnown = true) ∧
    TakesOnline (par (five alone) 2 (ask 0x0501 1 0)) 2 .request (fun d₁ =>
      RequestNames d₁ 2 5 alone .shared 3 (.ms 65535) ∧ RequestPasses d₁ 2 alone .shared ∧
      alone.occupancy = .heldS ∧ (∀ h ∈ alone.holders, h.mode = .shared) ∧ alone.queue = []) ∧
    TakesOnline (par (five alone) 1 (ask 0x0501 3 0)) 1 .request (fun d₁ =>
      RequestNames d₁ 1 5 alone .upgrade 3 (.ms 65535) ∧ RequestPasses d₁ 1 alone .upgrade ∧
      alone.holders = [grant 1 .shared 2] ∧ (grant 1 .shared 2).agent = 1) :=
  ⟨takesOnline (by decide +kernel) ⟨names (by decide +kernel), passes (by decide +kernel), by decide +kernel⟩,
    takesOnline (by decide +kernel) ⟨names (by decide +kernel), passes (by decide +kernel), by decide +kernel⟩,
    takesOnline (by decide +kernel) ⟨names (by decide +kernel), passes (by decide +kernel), by decide +kernel⟩,
    takesOnline (by decide +kernel) ⟨names (by decide +kernel), passes (by decide +kernel), by decide +kernel⟩⟩

theorem witness_RequestUnavailable :
    TakesOnline (par (five both) 1 (ask 0x0501 3 0)) 1 .request (fun d₁ =>
      RequestNames d₁ 1 5 both .upgrade 3 (.ms 65535) ∧ RequestPasses d₁ 1 both .upgrade ∧
      ¬ servedAtOnce 1 both .upgrade ∧ (d₁.params 1).waitlim = 0) ∧
    TakesOnline (par (five both) 3 (ask 0x0501 2 0)) 3 .request (fun d₁ =>
      RequestNames d₁ 3 5 both .exclusive 3 (.ms 65535) ∧ RequestPasses d₁ 3 both .exclusive ∧
      ¬ servedAtOnce 3 both .exclusive ∧ (d₁.params 3).waitlim = 0) := by
  unfold servedAtOnce
  exact ⟨takesOnline (by decide +kernel) ⟨names (by decide +kernel), passes (by decide +kernel), by decide +kernel⟩,
    takesOnline (by decide +kernel) ⟨names (by decide +kernel), passes (by decide +kernel), by decide +kernel⟩⟩

/-- Another entry, whose queue holds `n` cells of agent `a`. -/
def waiting (d : Device) (a : Agent) (n : Nat) : Device :=
  d.putRecord 7 { both with queue := List.replicate n (cell a .exclusive 0) }

theorem witness_RequestQueued :
    TakesOnline (par (waiting (five both) 3 4) 3 (ask 0x0501 2 1)) 3 .request (fun d₁ =>
      RequestNames d₁ 3 5 both .exclusive 3 (.ms 65535) ∧ RequestPasses d₁ 3 both .exclusive ∧
      ¬ servedAtOnce 3 both .exclusive ∧ (d₁.params 3).waitlim.toNat = 1 ∧ (d₁.agent 3).waitQuota ≤ d₁.waitCount 3) ∧
    TakesOnline (par (waiting (five both) 7 64) 3 (ask 0x0501 2 1)) 3 .request (fun d₁ =>
      RequestNames d₁ 3 5 both .exclusive 3 (.ms 65535) ∧ RequestPasses d₁ 3 both .exclusive ∧
      ¬ servedAtOnce 3 both .exclusive ∧ d₁.waitCount 3 < (d₁.agent 3).waitQuota ∧ 64 ≤ d₁.cellsInUse) ∧
    TakesOnline (par (waiting (five both) 7 63) 3 (ask 0x0501 2 65534)) 3 .request (fun d₁ =>
      RequestNames d₁ 3 5 both .exclusive 3 (.ms 65535) ∧ RequestPasses d₁ 3 both .exclusive ∧
      ¬ servedAtOnce 3 both .exclusive ∧ (d₁.params 3).waitlim.toNat = 65534 ∧
      d₁.waitCount 3 < (d₁.agent 3).waitQuota ∧ d₁.cellsInUse < 64) ∧
    TakesOnline (par (five both) 1 (ask 0x0501 3 65535)) 1 .request (fun d₁ =>
      RequestNames d₁ 1 5 both .upgrade 3 (.ms 65535) ∧ RequestPasses d₁ 1 both .upgrade ∧
      ¬ servedAtOnce 1 both .upgrade ∧ (d₁.params 1).waitlim.toNat = 65535 ∧
      d₁.waitCount 1 < (d₁.agent 1).waitQuota ∧ d₁.cellsInUse < 64) := by
  unfold servedAtOnce
  exact ⟨takesOnline (by decide +kernel) ⟨names (by decide +kernel), passes (by decide +kernel), by decide +kernel⟩,
    takesOnline (by decide +kernel) ⟨names (by decide +kernel), passes (by decide +kernel), by decide +kernel⟩,
    takesOnline (by decide +kernel) ⟨names (by decide +kernel), passes (by decide +kernel), by decide +kernel⟩,
    takesOnline (by decide +kernel) ⟨names (by decide +kernel), passes (by decide +kernel), by decide +kernel⟩⟩

theorem witness_RequestGoesInFlight :
    TakesOnline (par (waiting (steered shared settled) 1 3) 1 (ask 0x0601 2 0)) 1 .request (fun d₁ =>
      RequestNames d₁ 1 6 (six shared) .exclusive 3 (.ms 65535) ∧ RequestPasses d₁ 1 (six shared) .exclusive ∧
      (six shared).occupancy = .idle ∧ (six shared).holders = [] ∧ (six shared).queue = [] ∧ (six shared).group = some 0 ∧
      (d₁.group 0).binding = some { entry := 6, home := .agent 3, parkPolicy := .home, timeout := 20 } ∧
      (d₁.group 0).select ≠ .agent 1 ∧ d₁.waitCount 1 < (d₁.agent 1).waitQuota ∧ d₁.cellsInUse < 64) ∧
    TakesOnline (par (waiting (steered shared settled) 1 4) 1 (ask 0x0601 2 0)) 1 .request (fun d₁ =>
      RequestNames d₁ 1 6 (six shared) .exclusive 3 (.ms 65535) ∧ RequestPasses d₁ 1 (six shared) .exclusive ∧
      (d₁.group 0).select ≠ .agent 1 ∧ (d₁.agent 1).waitQuota ≤ d₁.waitCount 1) ∧
    TakesOnline (par (waiting (steered shared settled) 7 64) 1 (ask 0x0601 2 0)) 1 .request (fun d₁ =>
      RequestNames d₁ 1 6 (six shared) .exclusive 3 (.ms 65535) ∧ RequestPasses d₁ 1 (six shared) .exclusive ∧
      (d₁.group 0).select ≠ .agent 1 ∧ d₁.waitCount 1 < (d₁.agent 1).waitQuota ∧ 64 ≤ d₁.cellsInUse) :=
  ⟨takesOnline (by decide +kernel) ⟨names (by decide +kernel), passes (by decide +kernel), by decide +kernel⟩,
    takesOnline (by decide +kernel) ⟨names (by decide +kernel), passes (by decide +kernel), by decide +kernel⟩,
    takesOnline (by decide +kernel) ⟨names (by decide +kernel), passes (by decide +kernel), by decide +kernel⟩⟩

theorem witness_ReleaseAndCancelHandOn :
    TakesOnline (par (five queued) 1 { handle := 0x0501 }) 1 .release (fun d₁ =>
      d₁.lookup (d₁.params 1).handle = .ok (5, queued) ∧ queued.heldBy 1 = true) ∧
    TakesOnline (par (five queued) 2 { handle := 0x0501 }) 2 .release (fun d₁ =>
      d₁.lookup (d₁.params 2).handle = .ok (5, queued) ∧ queued.heldBy 2 = false) ∧
    TakesOnline (par (five queued) 2 { handle := 0x0501 }) 2 .cancel (fun d₁ =>
      d₁.lookup (d₁.params 2).handle = .ok (5, queued) ∧ queued.waitedBy 2 = true) ∧
    TakesOnline (par (five queued) 1 { handle := 0x0501 }) 1 .cancel (fun d₁ =>
      d₁.lookup (d₁.params 1).handle = .ok (5, queued) ∧ queued.waitedBy 1 = false) :=
  ⟨takesOnline (by decide +kernel) (by decide +kernel), takesOnline (by decide +kernel) (by decide +kernel),
    takesOnline (by decide +kernel) (by decide +kernel), takesOnline (by decide +kernel) (by decide +kernel)⟩

theorem witness_RenewAndCheck :
    TakesOnline (par (five both) 1 { handle := 0x0501, term := 65536 }) 1 .renew (fun d₁ =>
      d₁.lookup (d₁.params 1).handle = .ok (5, both) ∧ 65535 < (d₁.params 1).term.toNat ∧
      (d₁.params 1).term ≠ 0xFFFFFFFF) ∧
    TakesOnline (par (five both) 3 { handle := 0x0501, term := 0xFFFFFFFF }) 3 .renew (fun d₁ =>
      d₁.lookup (d₁.params 3).handle = .ok (5, both) ∧ (d₁.params 3).term = 0xFFFFFFFF ∧ both.heldBy 3 = false) ∧
    TakesOnline (par (five both) 1 { handle := 0x0501, term := 65535 }) 1 .renew (fun d₁ =>
      d₁.lookup (d₁.params 1).handle = .ok (5, both) ∧ (d₁.params 1).term.toNat = 65535 ∧ both.heldBy 1 = true) ∧
    TakesOnline (par (five both) 1 { handle := 0x0501, ticket := 0 }) 1 .check (fun d₁ =>
      d₁.lookup (d₁.params 1).handle = .ok (5, both) ∧ (d₁.params 1).ticket = 0) ∧
    TakesOnline (par (five both) 1 { handle := 0x0501, ticket := 4 }) 1 .check (fun d₁ =>
      d₁.lookup (d₁.params 1).handle = .ok (5, both) ∧ ∀ h ∈ both.holders, h.ticket ≠ (d₁.params 1).ticket) ∧
    TakesOnline (par (five both) 1 { handle := 0x0501, ticket := 3 }) 1 .check (fun d₁ =>
      d₁.lookup (d₁.params 1).handle = .ok (5, both) ∧ grant 2 .shared 3 ∈ both.holders ∧
      (d₁.params 1).ticket = 3 ∧ ∀ h ∈ both.holders, h.ticket = 3 → h = grant 2 .shared 3) :=
  ⟨takesOnline (by decide +kernel) (by decide +kernel), takesOnline (by decide +kernel) (by decide +kernel),
    takesOnline (by decide +kernel) (by decide +kernel), takesOnline (by decide +kernel) (by decide +kernel),
    takesOnline (by decide +kernel) (by decide +kernel), takesOnline (by decide +kernel) (by decide +kernel)⟩

/-- Agent 1 holds an EXCLUSIVE_ONLY entry. -/
def sole : Record :=
  { shared with sharing := .exclusiveOnly, holders := [grant 1 .exclusive 2], occupancy := .heldX }

theorem witness_DowngradeShares :
    TakesOnline (par (five queued) 2 { handle := 0x0501 }) 2 .downgrade (fun d₁ =>
      d₁.lookup (d₁.params 2).handle = .ok (5, queued) ∧ queued.heldBy 2 = false) ∧
    TakesOnline (par (five sole) 1 { handle := 0x0501 }) 1 .downgrade (fun d₁ =>
      d₁.lookup (d₁.params 1).handle = .ok (5, sole) ∧ sole.holder 1 = some (grant 1 .exclusive 2) ∧
      sole.sharing = .exclusiveOnly) ∧
    TakesOnline (par (five both) 1 { handle := 0x0501 }) 1 .downgrade (fun d₁ =>
      d₁.lookup (d₁.params 1).handle = .ok (5, both) ∧ both.holder 1 = some (grant 1 .shared 2) ∧
      both.sharing = .sharedAllowed) ∧
    TakesOnline (par (five queued) 1 { handle := 0x0501 }) 1 .downgrade (fun d₁ =>
      d₁.lookup (d₁.params 1).handle = .ok (5, queued) ∧ queued.holder 1 = some (grant 1 .exclusive 2) ∧
      queued.sharing = .sharedAllowed) :=
  ⟨takesOnline (by decide +kernel) (by decide +kernel), takesOnline (by decide +kernel) (by decide +kernel),
    takesOnline (by decide +kernel) (by decide +kernel), takesOnline (by decide +kernel) (by decide +kernel)⟩

theorem witness_ForceReleaseRevokes :
    TakesControl (par (five both) 0 { handle := 0x0501, agent := 8 }) 0 .forceRelease (fun d₁ =>
      d₁.lookup (d₁.params 0).handle = .ok (5, both) ∧ 7 < (d₁.params 0).agent.toNat) ∧
    TakesControl (par (five both) 0 { handle := 0x0501, agent := 0 }) 0 .forceRelease (fun d₁ =>
      d₁.lookup (d₁.params 0).handle = .ok (5, both) ∧ (d₁.params 0).agent.toNat = 0) ∧
    TakesControl (par (five both) 0 { handle := 0x0501, agent := 7 }) 0 .forceRelease (fun d₁ =>
      d₁.lookup (d₁.params 0).handle = .ok (5, both) ∧ (d₁.params 0).agent.toNat = 7 ∧ both.heldBy 7 = false) ∧
    TakesControl (par (five both) 0 { handle := 0x0501, agent := 2 }) 0 .forceRelease (fun d₁ =>
      d₁.lookup (d₁.params 0).handle = .ok (5, both) ∧ (d₁.params 0).agent.toNat = 2 ∧
      both.holder 2 = some (grant 2 .shared 3)) :=
  ⟨takesControl (by decide +kernel) (by decide +kernel), takesControl (by decide +kernel) (by decide +kernel),
    takesControl (by decide +kernel) (by decide +kernel), takesControl (by decide +kernel) (by decide +kernel)⟩

theorem witness_TakeNoticeCollectsTheLowestCell :
    Takes ruled 6 .takeNotice (fun d₁ => (d₁.agent 6).state ≠ .fenced ∧ ∀ e, (d₁.notice e 6).kinds = {}) ∧
    Takes ((ruled.setSlot 127 { generation := 255, record := some both }).setNotice 127 1
        { kinds := { yieldAsked := true }, generation := some 255 }) 1 .takeNotice (fun d₁ =>
      (d₁.agent 1).state ≠ .fenced ∧ (d₁.notice 127 1).kinds ≠ {} ∧ (∀ x < 127, (d₁.notice x 1).kinds = {}) ∧
      (d₁.notice 127 1).generation = some 255 ∧ d₁.entry 127 = some both ∧ (d₁.slot 127).generation = 255 ∧
      both.holder 1 = some (grant 1 .shared 2)) :=
  ⟨takes (by decide +kernel) (by decide +kernel), takes (by decide +kernel) (by decide +kernel)⟩

/-! #### Retirement -/

theorem witness_RetireEndsTheWaits_refused :
    TakesOnline (par (five shared) 1 { handle := 0x0501, mode := 3 }) 1 .retire (fun d₁ =>
      d₁.lookup (d₁.params 1).handle = .ok (5, shared) ∧ 2 < (d₁.params 1).mode.toNat) ∧
    TakesOnline (par ruled 0 { handle := 0x0001, mode := 1 }) 0 .retire (fun d₁ =>
      d₁.lookup (d₁.params 0).handle = .ok (0, lease) ∧ (d₁.params 0).mode = 1) ∧
    TakesOnline (par (five shared) 1 { handle := 0x0501, mode := 2 }) 1 .retire (fun d₁ =>
      d₁.lookup (d₁.params 1).handle = .ok (5, shared) ∧ (d₁.params 1).mode = 2 ∧ d₁.controlHolder ≠ some 1) ∧
    TakesOnline (par (five leaving) 1 { handle := 0x0501, mode := 1 }) 1 .retire (fun d₁ =>
      d₁.lookup (d₁.params 1).handle = .ok (5, leaving) ∧ (d₁.params 1).mode = 1 ∧ leaving.origin = .plain 1 ∧
      leaving.lifecycle ≠ .live) :=
  ⟨takesOnline (by decide +kernel) (by decide +kernel), takesOnline (by decide +kernel) (by decide +kernel),
    takesOnline (by decide +kernel) (by decide +kernel), takesOnline (by decide +kernel) (by decide +kernel)⟩

theorem witness_RetireEndsTheWaits_done :
    TakesOnline (par (five queued) 1 { handle := 0x0501, mode := 1 }) 1 .retire (fun d₁ =>
      d₁.lookup (d₁.params 1).handle = .ok (5, queued) ∧ (d₁.params 1).mode = 1 ∧ queued.origin = .plain 1 ∧
      queued.lifecycle = .live ∧ (queued.queue.map (·.agent)).Nodup ∧ queued.holders ≠ []) ∧
    TakesOnline (par (five queued) 0 { handle := 0x0501, mode := 2 }) 0 .retire (fun d₁ =>
      d₁.lookup (d₁.params 0).handle = .ok (5, queued) ∧ (d₁.params 0).mode = 2 ∧ d₁.controlHolder = some 0 ∧
      queued.isSwitching = false) ∧
    TakesOnline (par (flying (steered toOne (requesting 4))) 0 { handle := 0x0601, mode := 1 }) 0 .retire (fun d₁ =>
      d₁.lookup (d₁.params 0).handle = .ok (6, six toOne) ∧ (d₁.params 0).mode = 1 ∧ d₁.controlHolder = some 0 ∧
      (six toOne).holders = [] ∧ (six toOne).isSwitching = true ∧ d₁.inFlightOn 1 6 = true) :=
  ⟨takesOnline (by decide +kernel) (by decide +kernel), takesOnline (by decide +kernel) (by decide +kernel),
    takesOnline (by decide +kernel) (by decide +kernel)⟩

/-! #### Steering -/

theorem witness_ClearFaultHandsOn :
    TakesControl (par ruled 0 { group := 0 }) 0 .clearFault (fun d₁ => (d₁.params 0).group = 0) ∧
    TakesControl (par ruled 0 { group := 5 }) 0 .clearFault (fun d₁ => 4 < (d₁.params 0).group.toNat) ∧
    TakesControl (par ruled 0 { group := 4 }) 0 .clearFault (fun d₁ =>
      (d₁.params 0).group.toNat = 4 ∧ (d₁.group 3).state ≠ .faulted) ∧
    TakesControl (par (steered { shared with occupancy := .faulted } { settled with state := .faulted }) 0 { group := 1 }) 0
      .clearFault (fun d₁ => (d₁.params 0).group.toNat = 1 ∧ (d₁.group 0).state = .faulted ∧
        (d₁.group 0).binding = some { entry := 6, home := .agent 3, parkPolicy := .home, timeout := 20 } ∧
        d₁.entry 6 = some (six { shared with occupancy := .faulted })) :=
  ⟨takesControl (by decide +kernel) (by decide +kernel), takesControl (by decide +kernel) (by decide +kernel),
    takesControl (by decide +kernel) (by decide +kernel), takesControl (by decide +kernel) (by decide +kernel)⟩

theorem witness_SettleGrantsTheTarget :
    let d := steered toOne (requesting 0)
    let x : Record := { toOne with queue := [cell 1 .exclusive 2] }
    tget (st d).pins.stdoneHigh 0 = false ∧ Live (st d) d ∧ (d.group 0).state = .switching ∧
    (d.group 0).phase = some (.requesting 0) ∧
    (d.group 0).binding = some { entry := 6, home := .agent 3, parkPolicy := .home, timeout := 20 } ∧
    d.entry 6 = some (six toOne) ∧ (six toOne).holders = [] ∧ ((six toOne).queue.map (·.agent)).Nodup ∧
    (six toOne).lifecycle = .live ∧ (six toOne).occupancy = .switching (.agent 1) ∧
    (six toOne).queue = [{ cell 1 .exclusive 2 with target := true }] ∧
    (flying d).inFlightOn 1 6 = true ∧ d.inFlightOn 1 6 = false ∧
    (steered x (requesting 0)).entry 6 = some (six x) ∧ (∀ c ∈ x.queue, c.target = false) ∧
    tget (stHigh d).pins.stdoneHigh 0 = true ∧ (ruled.group 0).state ≠ .switching :=
  ⟨by decide +kernel, live_of rfl, by decide +kernel⟩

theorem witness_FallDrivesADeferredSwitch :
    let d := steered toOne { settled with state := .switching, phase := some .deferred, stdone := true }
    tget (st d).pins.stdoneHigh 0 = false ∧ tget (stHigh d).pins.stdoneHigh 0 = true ∧ Live (stHigh d) d ∧
    (d.group 0).state = .switching ∧ (d.group 0).phase = some .deferred ∧
    (d.group 0).binding = some { entry := 6, home := .agent 3, parkPolicy := .home, timeout := 20 } ∧
    d.entry 6 = some (six toOne) ∧ (six toOne).occupancy = .switching (.agent 1) ∧
    Live (stHigh ruled) ruled ∧ (ruled.group 0).state ≠ .switching ∧
    (st d).dev = some d ∧ (d.group 0).select = .agent 3 ∧ (ruled.group 0).select = .park ∧
    ((steered toOne (requesting 4)).group 0).phase = some (.requesting 4) :=
  ⟨by decide +kernel, by decide +kernel, ⟨rfl, rfl⟩, by decide +kernel, by decide +kernel, by decide +kernel,
    by decide +kernel, by decide +kernel, ⟨rfl, rfl⟩, by decide +kernel, rfl, by decide +kernel⟩

theorem witness_SwitchTimeoutFaults :
    let d : Device := { steered toOne (requesting 0) with issued := [.switch 0] }
    let h : Device := { steered { shared with occupancy := .switching .home } (requesting 0) with issued := [.switch 0] }
    Live (st d) d ∧ Expiry.switch 0 ∈ d.issued ∧ (d.group 0).state = .switching ∧
    (d.group 0).phase = some (.requesting 0) ∧
    (d.group 0).binding = some { entry := 6, home := .agent 3, parkPolicy := .home, timeout := 20 } ∧
    d.entry 6 = some (six toOne) ∧ (six toOne).holders = [] ∧ (six toOne).occupancy = .switching (.agent 1) ∧
    (flying d).inFlightOn 1 6 = true ∧ d.inFlightOn 1 6 = false ∧
    Live (st h) h ∧ h.entry 6 = some (six { shared with occupancy := .switching .home }) ∧ Expiry.switch 0 ∈ h.issued ∧
    Live (st ruled) ruled ∧ Expiry.switch 0 ∉ ruled.issued ∧
    ((steered toOne (requesting 1)).group 0).phase ≠ some (.requesting 0) :=
  ⟨live_of rfl, by decide +kernel, by decide +kernel, by decide +kernel, by decide +kernel, by decide +kernel,
    by decide +kernel, by decide +kernel, by decide +kernel, by decide +kernel, live_of rfl, by decide +kernel,
    by decide +kernel, live_of rfl, by decide +kernel⟩

/-! #### Time -/

theorem witness_TickMovesEveryCountdown :
    Live (st ruled) ruled ∧ ({ st ruled with dev := none } : State).dev = none ∧
    ({ st ruled with pins := { Pins.quiet with nresetLow := true } } : State).held = true :=
  ⟨live_of rfl, rfl, by decide +kernel⟩

/-- A grant whose term is over, a cell whose wait is over, and a grant whose grace is spent. -/
def spent : Record :=
  { shared with
    holders := [{ grant 1 .shared 2 with remaining := .ms 0 }, { grant 2 .shared 3 with asked := true, grace := some 0 }]
    occupancy := .heldS
    queue := [{ cell 3 .exclusive 1 with deadline := some 0 }] }

theorem witness_ExpiriesEndWhatTheyName :
    let d : Device := { five spent with issued := [.term 5 1 2, .wait 5 3, .grace 5 2 3] }
    Live (st d) d ∧ Expiry.term 5 1 2 ∈ d.issued ∧ Expiry.wait 5 3 ∈ d.issued ∧ Expiry.grace 5 2 3 ∈ d.issued ∧
    d.entry 5 = some spent ∧ (spent.holders.map (·.agent)).Nodup ∧
    { grant 1 .shared 2 with remaining := .ms 0 } ∈ spent.holders ∧
    { cell 3 .exclusive 1 with deadline := some 0 } ∈ spent.queue ∧
    { grant 2 .shared 3 with asked := true, grace := some 0 } ∈ spent.holders ∧
    Live (st (five spent)) (five spent) ∧ Expiry.term 5 1 2 ∉ (five spent).issued ∧ Expiry.wait 5 3 ∉ (five spent).issued ∧
    Expiry.grace 5 2 3 ∉ (five spent).issued ∧
    (five both).entry 5 = some both ∧ ∀ h ∈ both.holders, h.remaining ≠ .ms 0 ∧ h.asked = false :=
  ⟨live_of rfl, by decide +kernel, by decide +kernel, by decide +kernel, by decide +kernel, by decide +kernel,
    by decide +kernel, by decide +kernel, by decide +kernel, live_of rfl, by decide +kernel⟩

/-! #### Resets -/

theorem witness_WarmResetBegins :
    StartsControl (st ruled) ruled 0 .warmReset (fire .warmReset) (aft ruled 0 .warmReset) ∧
    Live (st ruled) ruled ∧ (st ruled).pins.nresetLow = false ∧ (st ruled).pins.coreAbsent = false ∧
    ({ st ruled with pins := { Pins.quiet with nresetLow := true } } : State).held = true ∧
    ({ st ruled with dev := none } : State).dev = none :=
  ⟨startsControl (by decide +kernel), live_of rfl, rfl, rfl, by decide +kernel, rfl⟩

theorem witness_WarmResetReleasesWithTheLastCause :
    let s : State := { st ruled.warmBegin with pins := { Pins.quiet with nresetLow := true } }
    let b : State := { st ruled.warmBegin with pins := { Pins.quiet with nresetLow := true, coreAbsent := true } }
    let c : Device := { ruled.warmBegin with cmdReset := true }
    s.dev = some ruled.warmBegin ∧ s.pins.nresetLow = true ∧ ({ s with pins := .quiet } : State).held = false ∧
    ({ b with pins := { Pins.quiet with coreAbsent := true } } : State).held = true ∧ b.pins.nresetLow = true ∧
    (st ruled).pins.nresetLow = false ∧
    (st c).dev = some c ∧ c.cmdReset = true ∧ (st c).pins.nresetLow = false ∧ (st c).pins.coreAbsent = false ∧
    (st ruled).dev = some ruled ∧ ruled.cmdReset = false :=
  ⟨rfl, rfl, by decide +kernel, by decide +kernel, rfl, rfl, rfl, rfl, rfl, rfl, rfl, rfl⟩

theorem witness_ColdResetAndSupplyLoss :
    ({ st base with dev := none } : State).dev = none ∧ ∀ b, Instr.termTick ≠ .coldReset b :=
  ⟨rfl, fun _ => by simp⟩

/-! #### Conditions that every step keeps -/

/-- Agent 3 holds entry 5 by way of group 1, and two agents wait for it. -/
def busy : Record :=
  { shared with
    sharing := .exclusiveOnly, group := some 0, holders := [grant 3 .exclusive 2], occupancy := .heldX
    queue := [cell 2 .exclusive 1, cell 1 .exclusive 0] }

/-- That device with a tick waiting in the queue. -/
def busySt : State := { st (bound busy) with pending := [.termTick] }

theorem busySt_steps : ∃ t, step busySt = .next t := ⟨_, rfl⟩

theorem records_busy {P : EntryIx → Record → Prop} (p₀ : P 0 lease) (p₁ : P 5 busy) :
    ∀ e r, (bound busy).entry e = some r → P e r :=
  records_of (x := 5) (fun e a b => by rw [entry_five (d := bound busy) (r := busy) rfl, if_neg (Ne.symm b), if_neg a])
    ((entry_five (d := bound busy) (r := busy) rfl 0).trans rfl) ((entry_five (d := bound busy) (r := busy) rfl 5).trans rfl) p₀ p₁

theorem busySt_names : busySt.Holds Device.NamesSound := fun d h => by
  cases h
  exact ⟨⟨by decide +kernel, records_busy (P := fun _ r => ∀ h ∈ r.holders, h.ticket ≠ 0) (by decide) (by decide)⟩,
    by unfold Device.GenerationsNonzero; decide +kernel, keys_five (d := bound busy) (r := busy) rfl (by decide),
    by unfold Device.NoticesStamped; decide +kernel⟩

theorem busySt_bounded : busySt.Holds Device.PoolBounded := fun d h => by
  cases h; unfold Device.PoolBounded; decide +kernel

theorem busySt_ordered : busySt.Holds Device.QueuesOrdered := fun d h => by
  cases h
  exact records_busy (P := fun _ r => QueueOrdered r.queue) ⟨by decide, by decide⟩ ⟨by decide, by decide⟩

theorem busySt_consistent : busySt.Holds Device.Consistent := fun d h => by
  cases h
  have five : (bound busy).entry 5 = some busy := (entry_five (d := bound busy) (r := busy) rfl 5).trans rfl
  have bind : ∀ g, ((bound busy).group g).binding =
      if g = 0 then some { entry := 5, home := .agent 3, parkPolicy := .home, timeout := 20 } else none := by decide +kernel
  have steers := records_busy (P := fun e r => ∀ g, r.group = some g → e = 5 ∧ r = busy ∧ g = 0)
    (fun g h => by cases h) (fun g h => by cases h; exact ⟨rfl, rfl, rfl⟩)
  refine ⟨?_, ?_, ?_, ?_, ?_, ?_, ?_⟩
  · exact records_busy (P := fun _ r => r.Agrees)
      ⟨by decide, by decide, by decide, by decide, by decide, by decide, _, rfl, rfl⟩
      ⟨by decide, by decide, by decide, by decide, by decide, by decide, _, rfl, rfl⟩
  · intro e g
    rw [bind]
    constructor
    · rintro ⟨r, hr, hg⟩
      obtain ⟨rfl, rfl, rfl⟩ := steers e r hr g hg
      exact ⟨_, rfl, rfl⟩
    · rintro ⟨b, hb, rfl⟩
      by_cases h : g = 0
      · subst h; cases hb; exact ⟨busy, five, rfl⟩
      · rw [if_neg h] at hb; cases hb
  · decide +kernel
  · intro e r g hr hg
    obtain ⟨rfl, rfl, rfl⟩ := steers e r hr g hg
    decide +kernel
  · exact records_busy (P := fun _ r => r.group = none → r.isSwitching = false ∧ r.occupancy ≠ .faulted)
      (by decide) (by decide)
  · intro e r g h hr hg hm
    obtain ⟨rfl, rfl, rfl⟩ := steers e r hr g hg
    revert h; decide +kernel
  · intro e r g b t n hr hg _ ht
    obtain ⟨rfl, rfl, rfl⟩ := steers e r hr g hg
    cases ht

theorem busySt_lease : busySt.Holds Device.ControlLeaseKept := fun d h => by
  cases h
  refine ⟨⟨lease, (entry_five (d := bound busy) (r := busy) rfl 0).trans rfl, ?_⟩, by decide +kernel, ?_⟩
  · exact ⟨rfl, rfl, rfl, by decide, rfl, rfl, rfl, rfl, rfl, by decide, by decide, by decide⟩
  · have : ∀ g, ((bound busy).group g).binding.map (·.entry) ≠ some 0 := by decide +kernel
    exact fun g b hb e => this g (by rw [hb]; exact congrArg some e)

theorem busySt_served : busySt.Holds Device.QueuesServed := fun d h => by
  cases h
  exact ⟨records_busy (P := fun _ r => r.decidable = true → r.HeadBlocked)
      (fun _ c q h => by cases h) (fun _ c q h => by cases h; exact List.cons_ne_nil _ _),
    records_busy (P := fun _ r => r.lifecycle ≠ .live → r.queue = []) (by decide) (by decide)⟩

theorem busySt_quotas : busySt.Holds Device.QuotasKept := fun d h => by
  cases h
  exact ⟨by decide +kernel, by decide +kernel⟩

theorem busySt_roster : busySt.Holds Device.RosterSound := fun d h => by
  cases h
  have away : ∀ a, ((bound busy).agent a).state ≠ .online →
      lease.heldBy a = false ∧ busy.heldBy a = false ∧ lease.waitedBy a = false ∧ busy.waitedBy a = false := by decide +kernel
  refine ⟨fun a ha => ?_, fun a ha => ?_, ?_, fun v hv => (by cases hv), ?_⟩
  · have := away a (by rcases ha with h | h <;> rw [h] <;> decide)
    exact records_busy (P := fun _ r => r.heldBy a = false) this.1 this.2.1
  · exact records_busy (P := fun _ r => r.waitedBy a = false) (away a ha).2.2.1 (away a ha).2.2.2
  · decide +kernel
  · decide +kernel

theorem busySt_channels : busySt.ChannelsSound := by
  have ready : ∀ a, ((bound busy).chan a).state = .ready ∧ ((bound busy).chan a).latched = none ∧
      tget Pins.quiet.agrstLow a = false := by decide +kernel
  refine ⟨fun d h => ?_, fun d h a => ?_, fun d h a => ?_, fun d h a _ => ?_, fun d h a ha => ?_⟩ <;> cases h
  · exact ⟨fun h => (by cases h), fun h => absurd rfl h⟩
  · rw [(ready a).1]
    exact ⟨fun h => (by cases h), fun h => h.elim (fun h => by cases h) fun h => by cases (ready a).2.2.symm.trans h⟩
  · rw [(ready a).1]; decide
  · exact (ready a).2.1
  · rw [(ready a).1] at ha; cases ha

theorem busySt_safe : busySt.Safe :=
  ⟨busySt_names, busySt_bounded, busySt_ordered, busySt_consistent, busySt_lease, busySt_served, busySt_quotas,
    busySt_roster, busySt_channels⟩

theorem witness_StepsKeepNamesSound : busySt.Holds Device.NamesSound ∧ ∃ t, step busySt = .next t :=
  ⟨busySt_names, busySt_steps⟩

theorem witness_StepsKeepThePoolAndTheQueues :
    (∃ t, step busySt = .next t) ∧ busySt.Holds Device.PoolBounded ∧ busySt.Holds Device.QueuesOrdered ∧ busySt.Safe :=
  ⟨busySt_steps, busySt_bounded, busySt_ordered, busySt_safe⟩

theorem witness_StepsKeepRecordsAndGroupsAgreed :
    (∃ t, step busySt = .next t) ∧ busySt.Holds Device.Consistent ∧ busySt.Safe :=
  ⟨busySt_steps, busySt_consistent, busySt_safe⟩

theorem witness_StepsKeepTheControlLease : (∃ t, step busySt = .next t) ∧ busySt.Holds Device.ControlLeaseKept :=
  ⟨busySt_steps, busySt_lease⟩

end Sys2Proof.Tests
end

section
/-!
PROOFS. A started command taken and answered: a rule that does not look at the channels can be run on the device
before the start, and its answer written at its end. The handle check (R8).
-/
namespace Sys2Proof.Machine

/-! ### A started command and its rule -/

section
variable {s : State} {d d₁ d' : Device} {ch : Agent} {c : Cmd} {w : Writes} {r : Results}

/-- The row of a command is its transaction, taken by its own rule. -/
theorem exec_commandRow (c : Cmd) (ch : Agent) (w : Writes) (s : State) :
    exec (commandRow c ch w) s = s.onLive (commandWrite c (takeOf c) ch w) := by
  cases c <;> rfl

/-- What a started command answers, where its rule does the same whatever the channels hold. -/
theorem writeBack_started {take : Take} {p : Params} (hc : d'.channels = d₁.channels)
    (ht : ∀ v, take ch p (d₁.withChannels v) = (d'.withChannels v, some r)) :
    writeBack ch c (take ch p (d₁.started ch c)) = d'.answered ch c r := by
  rw [started_eq, ht]
  exact finish_withChannels hc r

/-- A command of an ONLINE agent ends as its rule says. -/
theorem exec_of_online (h : StartsOnline s d ch c w d₁) (hn : isControlCommand c = false)
    (hc : d'.channels = d₁.channels)
    (ht : ∀ v, takeOf c ch ((d₁.params ch).latch c) (d₁.withChannels v) = (d'.withChannels v, some r)) :
    exec (commandRow c ch w) s = .next (s.withDev (d'.answered ch c r)) := by
  rw [exec_commandRow, onLive_live h.starts.live, commandWrite_online h hn, writeBack_started hc ht]

/-- A control command of the control holder ends as its rule says. -/
theorem exec_of_control (h : StartsControl s d ch c w d₁) (hc : d'.channels = d₁.channels)
    (ht : ∀ v, takeOf c ch ((d₁.params ch).latch c) (d₁.withChannels v) = (d'.withChannels v, some r)) :
    exec (commandRow c ch w) s = .next (s.withDev (d'.answered ch c r)) := by
  rw [exec_commandRow, onLive_live h.starts.live, commandWrite_control h, writeBack_started hc ht]

/-- A command that its rule refuses at once changes nothing but the answer. -/
theorem writeBack_done (code : ResultCode) :
    writeBack ch c (done (d₁.started ch c) code) = d₁.answered ch c { result := code } := by
  rw [started_eq]
  exact finish_withChannels rfl _

end

/-! ### The handle check (R8) -/

@[simp] theorem lookup_withChannels (d : Device) (v : Vector Channel 8) (h : Handle) :
    (d.withChannels v).lookup h = d.lookup h := rfl

theorem handleIndex_eq (h : Handle) : handleIndex h = h.toNat / 256 := by
  simp [handleIndex, BitVec.toNat_ushiftRight, Nat.shiftRight_eq_div_pow]

theorem toNat_handleGeneration (h : Handle) : (handleGeneration h).toNat = h.toNat % 256 := by
  simp [handleGeneration, BitVec.toNat_setWidth]

/-- A value that is no handle (R8). -/
theorem lookup_badParam (d : Device) {h : Handle} (hh : 127 < h.toNat / 256 ∨ h.toNat % 256 = 0) :
    d.lookup h = .error .badParam := by
  unfold Device.lookup
  split
  · rename_i lt
    rw [handleIndex_eq] at lt
    rw [if_pos]
    apply BitVec.eq_of_toNat_eq
    rw [toNat_handleGeneration]
    simpa using hh.resolve_left (by omega)
  · rfl

section
variable {d : Device} {h : Handle} {e : EntryIx}

/-- A handle to a FREE slot, or of another generation than the slot's, is stale (R8). -/
theorem lookup_stale (he : h.toNat = e.val * 256 + h.toNat % 256) (h0 : h.toNat % 256 ≠ 0)
    (hs : d.entry e = none ∨ (d.slot e).generation.toNat ≠ h.toNat % 256) : d.lookup h = .error .staleHandle := by
  have hi : handleIndex h = e.val := by rw [handleIndex_eq]; omega
  have hg : handleGeneration h ≠ 0 := fun h' => h0 (by rw [← toNat_handleGeneration, h']; rfl)
  unfold Device.lookup
  rw [dif_pos (by omega), if_neg hg]
  simp only [hi, Fin.eta]
  rcases hs with hs | hs
  · simp only [hs]
  · have : handleGeneration h ≠ (d.slot e).generation := fun h' => hs (by rw [← h', toNat_handleGeneration])
    split
    · rfl
    · exact if_neg this

/-- Any other handle is current (R8). -/
theorem lookup_current (he : h.toNat = e.val * 256 + h.toNat % 256) (h0 : h.toNat % 256 ≠ 0) {r : Record}
    (hr : d.entry e = some r) (hs : (d.slot e).generation.toNat = h.toNat % 256) : d.lookup h = .ok (e, r) := by
  have hi : handleIndex h = e.val := by rw [handleIndex_eq]; omega
  have hg : handleGeneration h ≠ 0 := fun h' => h0 (by rw [← toNat_handleGeneration, h']; rfl)
  have : handleGeneration h = (d.slot e).generation := BitVec.eq_of_toNat_eq (by rw [hs, toNat_handleGeneration])
  unfold Device.lookup
  rw [dif_pos (by omega), if_neg hg]
  simp only [hi, Fin.eta, hr]
  exact if_pos this

end

/-- The commands that name an entry by a handle (R8). -/
def namesAnEntry : Cmd → Bool
  | .query | .request | .release | .renew | .downgrade | .cancel | .check | .retire | .amend | .forceRelease => true
  | _ => false

/-- Such a command latches HANDLE (Table 69). -/
theorem latch_handle {c : Cmd} (hc : namesAnEntry c = true) (p : Params) : (p.latch c).handle = p.handle := by
  cases c with
  | query | request | release | renew | downgrade | cancel | check | retire | amend | forceRelease => rfl
  | _ => exact absurd hc (by decide)

/-- A handle that the check refuses ends such a command at once. -/
theorem take_of_lookup_error {c : Cmd} (hc : namesAnEntry c = true) {a : Agent} {p : Params} {d : Device}
    {code : ResultCode} (h : d.lookup p.handle = .error code) : takeOf c a p d = done d code := by
  cases c with
  | query => simp [takeOf, takeQuery, h]
  | request => simp [takeOf, takeRequest, h]
  | release => simp [takeOf, takeRelease, h]
  | renew => simp [takeOf, takeRenew, h]
  | downgrade => simp [takeOf, takeDowngrade, h]
  | cancel => simp [takeOf, takeCancel, h]
  | check => simp [takeOf, takeCheck, h]
  | retire => simp [takeOf, takeRetire, h]
  | amend => simp [takeOf, takeAmend, h]
  | forceRelease => simp [takeOf, takeForceRelease, h]
  | _ => exact absurd hc (by decide)

/-- Settles O13, by the check of `Device.lookup`, which stands first in the rule of each of these commands. -/
theorem handleCheck : Obligations.HandleCheck := by
  intro s d d₁ ch c w h hstart hh
  have hc : namesAnEntry c = true := by
    rcases hstart with ⟨-, hc⟩ | ⟨-, hc⟩ <;> revert hc <;> cases c <;> decide
  have refused : ∀ code, d₁.lookup h = .error code →
      exec (commandRow c ch w) s = .next (s.withDev (d₁.answered ch c { result := code })) := by
    intro code hl
    have ht : takeOf c ch ((d₁.params ch).latch c) (d₁.started ch c) = done (d₁.started ch c) code :=
      take_of_lookup_error hc (by rw [latch_handle hc, ← hh]; exact hl)
    rw [exec_commandRow]
    rcases hstart with ⟨ho, hm⟩ | ⟨ho, -⟩
    · have hn : isControlCommand c = false := by revert hm; cases c <;> decide
      rw [onLive_live ho.starts.live, commandWrite_online ho hn, ht, writeBack_done]
    · rw [onLive_live ho.starts.live, commandWrite_control ho, ht, writeBack_done]
  exact ⟨fun hb => refused _ (lookup_badParam d₁ hb), fun e he h0 =>
    ⟨fun hs => refused _ (lookup_stale he h0 hs), fun r hr hg => lookup_current he h0 hr hg⟩⟩

end Sys2Proof.Machine
end

section
/-!
PROOFS. Posts and drain completion: what a post writes, and what a drained slot holds (R104 to R106).
-/
namespace Sys2Proof.Machine

/-! ### Posts -/

section
variable (d : Device) (e x : EntryIx) (a b : Agent) (k : NoticeKind) (g : Generation)

/-- A post writes one notice cell at most. -/
theorem postGen_eq : d.postGen e a k g = { d with notices := (d.postGen e a k g).notices } := by
  unfold Device.postGen; split <;> rfl

@[simp] theorem postGen_slots : (d.postGen e a k g).slots = d.slots := by rw [postGen_eq]
@[simp] theorem postGen_groups : (d.postGen e a k g).groups = d.groups := by rw [postGen_eq]
@[simp] theorem postGen_agents : (d.postGen e a k g).agents = d.agents := by rw [postGen_eq]
@[simp] theorem postGen_channels : (d.postGen e a k g).channels = d.channels := by rw [postGen_eq]
@[simp] theorem postGen_ticket : (d.postGen e a k g).ticket = d.ticket := by rw [postGen_eq]
@[simp] theorem postGen_config : (d.postGen e a k g).config = d.config := by rw [postGen_eq]
@[simp] theorem postGen_boot : (d.postGen e a k g).boot = d.boot := by rw [postGen_eq]
@[simp] theorem post_slots : (d.post e a k).slots = d.slots := postGen_slots ..
@[simp] theorem post_groups : (d.post e a k).groups = d.groups := postGen_groups ..
@[simp] theorem post_agents : (d.post e a k).agents = d.agents := postGen_agents ..
@[simp] theorem post_channels : (d.post e a k).channels = d.channels := postGen_channels ..
@[simp] theorem post_ticket : (d.post e a k).ticket = d.ticket := postGen_ticket ..
@[simp] theorem post_config : (d.post e a k).config = d.config := postGen_config ..
@[simp] theorem post_boot : (d.post e a k).boot = d.boot := postGen_boot ..

theorem notice_postGen : (d.postGen e a k g).notice x b =
    if (e = x ∧ a = b) ∧ d.Online a then (d.notice e a).add k g else d.notice x b := by
  unfold Device.postGen
  split
  · next h => simp only [Device.notice_setNotice, and_iff_left h]
  · next h => rw [if_neg fun h' => h h'.2]

end

/-! ### Drain completion (R104 to R106) -/

section
variable (d : Device) (e : EntryIx) (r : Record) (q : Agent)

theorem notice_keepRetireDone (x : EntryIx) (a : Agent) :
    (d.keepRetireDone e).notice x a = if e = x then (d.notice e a).keepRetireDone else d.notice x a := by
  unfold Device.keepRetireDone Device.notice
  rw [tget_tset]
  split <;> simp

theorem unbindGroup_eq (g : Option GroupIx) :
    d.unbindGroup g = { d with groups := (d.unbindGroup g).groups } := by
  cases g <;> rfl

@[simp] theorem notice_unbindGroup (g : Option GroupIx) (a : Agent) :
    (d.unbindGroup g).notice e a = d.notice e a := by rw [unbindGroup_eq]; rfl

theorem unbindGroup_agents (g : Option GroupIx) : (d.unbindGroup g).agents = d.agents := by rw [unbindGroup_eq]

theorem slot_drain : (d.drain e r q).slot e =
    { generation := nextGeneration (d.slot e).generation, record := none } := by
  simp [Device.drain, Device.slot, Device.keepRetireDone]

theorem groups_drain : (d.drain e r q).groups = (d.unbindGroup r.group).groups := by
  simp [Device.drain, Device.keepRetireDone]

theorem ticket_drain : (d.drain e r q).ticket = d.ticket := by
  rw [Device.drain, postGen_ticket, Device.keepRetireDone, Device.setSlot_ticket, unbindGroup_eq]

theorem notice_drain (a : Agent) : (d.drain e r q).notice e a =
    if q = a ∧ d.Online q then (d.notice e a).keepRetireDone.add .retireDone (d.slot e).generation
    else (d.notice e a).keepRetireDone := by
  have hn : ∀ b, ((((d.unbindGroup r.group).setSlot e
      { generation := nextGeneration (d.slot e).generation, record := none }).keepRetireDone e).notice e b) =
      (d.notice e b).keepRetireDone := by
    intro b
    rw [notice_keepRetireDone, if_pos rfl]
    exact congrArg _ (notice_unbindGroup ..)
  have ho : (((d.unbindGroup r.group).setSlot e
      { generation := nextGeneration (d.slot e).generation, record := none }).keepRetireDone e).Online q ↔
      d.Online q := by
    rw [unbindGroup_eq]; rfl
  rw [Device.drain, notice_postGen, hn, hn]
  simp only [ho, true_and]
  split
  · next h => rw [h.1]
  · rfl

variable {d e r q} in
/-- A RETIRING entry is drained exactly where nobody holds it and no switch is in flight (R104). -/
theorem checkDrain_retiring {m : RetireMode} (hr : d.entry e = some r) (hl : r.lifecycle = .retiring q m) :
    d.checkDrain e = if r.holders = [] ∧ r.isSwitching = false then d.drain e r q else d := by
  simp [Device.checkDrain, hr, hl]

variable {d e r} in
end

/-- RETIRE_DONE is the one kind that a drain keeps (R106). -/
theorem kinds_keepRetireDone (c : NoticeCell) : c.keepRetireDone.kinds = { retireDone := c.kinds.retireDone } := rfl

theorem kinds_add_retireDone (c : NoticeCell) (g : Generation) :
    (c.keepRetireDone.add .retireDone g).kinds = { retireDone := true } := rfl

/-- A cell without RETIRE_DONE is empty after the drain, so the post of RETIRE_DONE gives it its generation. -/
theorem generation_add_retireDone {c : NoticeCell} (h : c.kinds.retireDone = false) (g : Generation) :
    (c.keepRetireDone.add .retireDone g).generation = some g := by
  simp [NoticeCell.add, NoticeCell.keepRetireDone, NoticeCell.pending, KindSet.isEmpty, h]

/-- Settles O20, from what a drain writes, field by field. -/
theorem drainFreesTheSlot : Obligations.DrainFreesTheSlot := by
  intro d e r q m hr hl
  refine ⟨fun hh hs => ?_, fun h => ?_⟩
  · have hd : d.checkDrain e = d.drain e r q := by rw [checkDrain_retiring hr hl, if_pos ⟨hh, hs⟩]
    refine ⟨by rw [hd, slot_drain]; rfl, fun x hx => ?_, fun a => ?_, fun ho hk => ?_, by rw [hd, ticket_drain],
      onlyEntry_checkDrain d e⟩
    · rw [hd, Device.group, groups_drain, hx]
      exact tget_tset_same ..
    · rw [hd, notice_drain]
      split
      · next h => obtain ⟨rfl, ho⟩ := h; simp [kinds_add_retireDone, ho]
      · next h =>
        have h' : (decide (a = q) && (d.agent q).state == .online) = false := by
          simpa using fun ha ho => h ⟨ha.symm, ho⟩
        simp only [h', Bool.or_false, kinds_keepRetireDone]
    · rw [hd, notice_drain, if_pos ⟨rfl, ho⟩, generation_add_retireDone hk]
  · rw [checkDrain_retiring hr hl, if_neg]
    rintro ⟨hh, hs⟩
    rcases h with h | h
    · exact h hh
    · rw [hs] at h; cases h

end Sys2Proof.Machine
end

section
/-!
PROOFS. Finding a key or a FREE slot (R1, R6), and OPEN (R10, R11).
-/
namespace Sys2Proof.Machine

/-! ### Keys, FREE slots and handles -/

section
variable {d : Device} {k : Key} {e : EntryIx} {r : Record}

theorem mem_allEntries (e : EntryIx) : e ∈ allEntries := List.mem_finRange e

/-- A key that is found is carried by the record found (R6). -/
theorem entry_of_findKey (h : d.findKey k = some (e, r)) : d.entry e = some r ∧ r.key = k := by
  obtain ⟨x, -, hx⟩ := List.exists_of_findSome?_eq_some h
  split at hx
  · next r' hr' =>
    split at hx
    · next hk => cases hx; exact ⟨hr', hk⟩
    · cases hx
  · cases hx

/-- A key is not found exactly where no record carries it. -/
theorem findKey_eq_none_iff : d.findKey k = none ↔ ∀ e r, d.entry e = some r → r.key ≠ k := by
  rw [Device.findKey, List.findSome?_eq_none_iff]
  constructor
  · intro h e r hr hk
    have := h e (mem_allEntries e)
    simp [hr, hk] at this
  · intro h e _
    split
    · next r hr => rw [if_neg (h e r hr)]
    · rfl

/-- The record of a key is found where no two records carry one key. -/
theorem findKey_of_entry (hd : d.KeysDistinct) (hr : d.entry e = some r) (hk : r.key = k) :
    d.findKey k = some (e, r) := by
  cases hf : d.findKey k with
  | none => exact absurd hk (findKey_eq_none_iff.mp hf e r hr)
  | some x =>
    obtain ⟨hr', hk'⟩ := entry_of_findKey hf
    have he : x.1 = e := hd _ _ _ _ hr' hr (hk'.trans hk.symm)
    rw [he, hr] at hr'
    cases hr'
    exact congrArg some (Prod.ext he rfl)

theorem entry_of_freeSlot (h : d.freeSlot = some e) : d.entry e = none := by
  simpa using List.find?_some h

theorem freeSlot_eq_none (h : ∀ e, d.entry e ≠ none) : d.freeSlot = none := by
  rw [Device.freeSlot, List.find?_eq_none]
  intro e _
  simpa [Option.isNone_iff_eq_none] using h e

/-- The lowest-numbered FREE slot is the one found (R1). -/
theorem freeSlot_eq_some (h : d.entry e = none) (hl : ∀ x < e, d.entry x ≠ none) : d.freeSlot = some e := by
  rw [Device.freeSlot, List.find?_eq_some_iff_getElem]
  refine ⟨by simp [h], e.val, by simp [allEntries], by simp [allEntries], fun j hj => ?_⟩
  simp only [allEntries, List.getElem_finRange, Bool.not_eq_true', Option.isNone_eq_false_iff]
  exact Option.isSome_iff_ne_none.mpr (hl _ hj)

/-- A handle is index × 256 + generation (R8). -/
theorem handleOf_eq (e : EntryIx) (g : Generation) : handleOf e g = BitVec.ofNat 16 (e.val * 256 + g.toNat) := by
  apply BitVec.eq_of_toNat_eq
  have he := e.isLt
  have hg := g.isLt
  rw [handleOf, BitVec.toNat_append, BitVec.toNat_ofNat, BitVec.toNat_ofNat, Nat.mod_eq_of_lt (by omega),
    Nat.mod_eq_of_lt (by omega), Nat.shiftLeft_eq, mul_comm e.val (2 ^ 8)]
  exact (Nat.two_pow_add_eq_or_of_lt hg e.val).symm

theorem handleFor_eq (d : Device) (e : EntryIx) :
    d.handleFor e = BitVec.ofNat 16 (e.val * 256 + (d.slot e).generation.toNat) := handleOf_eq ..

theorem isRetiring_iff : r.isRetiring = true ↔ r.lifecycle ≠ .live := by
  unfold Record.isRetiring; split <;> simp_all

theorem isRetiring_of_live (h : r.lifecycle = .live) : r.isRetiring = false := by simp [Record.isRetiring, h]

end

/-! ### Sharing class and creation -/

theorem sharingOf_eq_none {v : Byte} (h : 1 < v.toNat) : sharingOf v = none := by
  rw [sharingOf, if_neg (by rintro rfl; simp at h), if_neg (by rintro rfl; simp at h)]

theorem sharingOf_eq_some {v : Byte} (h : v.toNat ≤ 1) :
    sharingOf v = some (if v = 0 then .exclusiveOnly else .sharedAllowed) := by
  rcases Nat.le_one_iff_eq_zero_or_eq_one.mp h with h | h
  · obtain rfl : v = 0 := BitVec.eq_of_toNat_eq h
    rfl
  · obtain rfl : v = 1 := BitVec.eq_of_toNat_eq h
    rfl

/-- A record created in a slot: the slot's record and its notice cells alone change (R9). -/
theorem createRecord_eq (d : Device) (e : EntryIx) (r : Record) : d.createRecord e r =
    { d with
      slots := tset d.slots e { d.slot e with record := some r }
      notices := tset d.notices e (Vector.replicate 8 {}) } := rfl

/-! ### OPEN (R10, R11) -/

section
variable (d : Device) (v : Vector Channel 8)

@[simp] theorem findKey_withChannels (k : Key) : (d.withChannels v).findKey k = d.findKey k := rfl
@[simp] theorem freeSlot_withChannels : (d.withChannels v).freeSlot = d.freeSlot := rfl
@[simp] theorem handleFor_withChannels (e : EntryIx) : (d.withChannels v).handleFor e = d.handleFor e := rfl
@[simp] theorem agent_withChannels (a : Agent) : (d.withChannels v).agent a = d.agent a := rfl
@[simp] theorem plainRecord_withChannels (a : Agent) (k : Key) (c : SharingClass) :
    (d.withChannels v).plainRecord a k c = d.plainRecord a k c := rfl
@[simp] theorem createRecord_withChannels (e : EntryIx) (r : Record) :
    (d.withChannels v).createRecord e r = (d.createRecord e r).withChannels v := rfl

end

/-- The options that OPEN latches carry bit 0 as it was written (Table 69). -/
theorem getLsbD_and_one (v : Byte) : (v &&& 0x01).getLsbD 0 = v.getLsbD 0 := by
  simp

/-- Settles O30: each clause is one path through `takeOpen`, the key or the FREE slot found by R6 and R1. -/
theorem openFindsOrCreates : Obligations.OpenFindsOrCreates := by
  intro s d d₁ ch w hs hd p create refused
  have hc : ((p.latch .openEntry).options).getLsbD 0 = create := getLsbD_and_one _
  have refuse : ∀ c, (∀ v, takeOpen ch (p.latch .openEntry) (d₁.withChannels v) =
      openRefused (d₁.withChannels v) c) → refused c := fun c ht => exec_of_online hs rfl rfl ht
  refine ⟨fun h1 h2 => refuse _ fun v => ?_, fun hok => ?_⟩
  · have : sharingOf (p.latch .openEntry).sharing = none := sharingOf_eq_none h2
    simp only [takeOpen, hc, h1, this]; rfl
  have hsh : create = true → sharingOf (p.latch .openEntry).sharing =
      some (if p.sharing = 0 then .exclusiveOnly else .sharedAllowed) := fun h1 =>
    sharingOf_eq_some (hok.resolve_left (by simp [h1]))
  have hform : (create && (sharingOf (p.latch .openEntry).sharing).isNone) = false := by
    cases h : create with
    | false => rfl
    | true => rw [hsh h]; rfl
  refine ⟨fun e r hr hk => ?_, fun habs => ?_⟩
  · have hf : d₁.findKey (p.latch .openEntry).key = some (e, r) := findKey_of_entry hd hr hk
    refine ⟨fun hl => ?_, fun hl => refuse _ fun v => ?_⟩
    · rw [← handleFor_eq]
      refine exec_of_online hs rfl rfl fun v => (?_ : takeOpen ch (p.latch .openEntry) (d₁.withChannels v) = _)
      simp only [takeOpen, hc, hform, findKey_withChannels, hf, isRetiring_of_live hl]; rfl
    · simp only [takeOpen, hc, hform, findKey_withChannels, hf, isRetiring_iff.mpr hl]; rfl
  · have hf : d₁.findKey (p.latch .openEntry).key = none := findKey_eq_none_iff.mpr habs
    refine ⟨fun h1 => refuse _ fun v => ?_, fun h1 h2 => refuse _ fun v => ?_, fun h1 h2 h3 => refuse _ fun v => ?_,
      fun e h1 h2 h3 h4 => ?_⟩
    · simp only [takeOpen, hc, h1, findKey_withChannels, hf]; rfl
    · simp only [takeOpen, hc, hsh h1, findKey_withChannels, hf, h1, agent_withChannels, h2]; rfl
    · simp only [takeOpen, hc, hsh h1, findKey_withChannels, hf, h1, agent_withChannels, h2, freeSlot_withChannels,
        freeSlot_eq_none h3]; rfl
    · rw [← handleFor_eq]
      refine exec_of_online hs rfl rfl fun v => (?_ : takeOpen ch (p.latch .openEntry) (d₁.withChannels v) = _)
      simp only [takeOpen, hc, findKey_withChannels, hf, h1, agent_withChannels, h2, freeSlot_withChannels,
        freeSlot_eq_some h3 h4, hsh h1]
      rfl

end Sys2Proof.Machine
end

section
/-!
PROOFS. The QUERY view, page by page (R18, R19, R184), and the window as a read shows it.
-/
namespace Sys2Proof.Machine

/-! ### Pages -/

theorem length_bytesOf {n : Nat} (v : BitVec n) : (bytesOf v).length = n / 8 := by simp [bytesOf]

/-- A page is filled up with 00h to its 16 bytes. -/
theorem pad16_eq {l : List Byte} (h : l.length ≤ 16) : pad16 l = l ++ List.replicate (16 - l.length) 0 := by
  rw [pad16, List.take_append, List.take_of_length_le h, List.take_replicate, Nat.min_eq_left (by omega)]

theorem length_page0 (v : QueryView) : v.page0.length = 16 := by
  unfold QueryView.page0
  cases v.policy <;> simp [length_bytesOf, pageByte]

theorem length_page1 (v : QueryView) : v.page1.length = 13 := by
  simp [QueryView.page1, length_bytesOf, pageByte]

theorem length_holderPage (v : QueryView) (n : Nat) : (v.holderPage n).length = 12 := by
  unfold QueryView.holderPage
  split <;> simp [length_bytesOf]

theorem length_pad16 (l : List Byte) : (pad16 l).length = 16 := by simp [pad16]

theorem page_zero (v : QueryView) : v.page 0 = v.page0 := by
  simp [QueryView.page, pad16_eq, length_page0]

theorem page_one (v : QueryView) : v.page 1 = v.page1 ++ [0, 0, 0] := by
  simp [QueryView.page, pad16_eq, length_page1]

theorem page_holder (v : QueryView) (a : Agent) : v.page (2 + a.val) = v.holderPage a.val ++ [0, 0, 0, 0] := by
  have ha := a.isLt
  rw [QueryView.page, if_neg (by omega), if_neg (by omega), if_pos (by omega), Nat.add_sub_cancel_left,
    pad16_eq (by simp [length_holderPage]), length_holderPage]
  rfl

theorem page_ten {v : QueryView} {n : Nat} (h : 10 ≤ n) : v.page n = List.replicate 16 0 := by
  rw [QueryView.page, if_neg (by omega), if_neg (by omega), if_neg (by omega)]
  rfl

/-! ### The holders of a view -/

/-- The only member of a list that meets a test is the one found. -/
theorem find?_eq_of_unique {α : Type} {p : α → Bool} {l : List α} {x : α} (hx : x ∈ l) (hp : p x = true)
    (hu : ∀ y ∈ l, p y = true → y = x) : l.find? p = some x := by
  cases h : l.find? p with
  | none => exact absurd hp (List.find?_eq_none.mp h x hx)
  | some y => rw [hu y (List.mem_of_find?_eq_some h) (List.find?_some h)]

theorem agent_of_holder {r : Record} {a : Agent} {h : Holder} (hh : r.holder a = some h) : h.agent = a := by
  simpa using List.find?_some hh

/-- In a list that names no agent twice, a holder record is the one found for its agent. -/
theorem holder_eq_some {r : Record} (hn : (r.holders.map (·.agent)).Nodup) {h : Holder} (hh : h ∈ r.holders) :
    r.holder h.agent = some h :=
  find?_eq_of_unique hh (by simp) fun y hy hp =>
    List.inj_on_of_nodup_map hn hy hh (by simpa using hp)

/-- The view shows agent `a` as its holder record has it, and not at all where it has none (R19). -/
theorem find_view_holders (r : Record) (k : Handle) (a : Agent) :
    ((r.view k).holders.find? fun h => h.agent.val = a.val) = (r.holder a).map Holder.view := by
  have hm : ∀ x ∈ (r.view k).holders, ∃ h, r.holder x.agent = some h ∧ h.view = x := by
    intro x hx
    obtain ⟨b, -, hb⟩ := List.mem_filterMap.mp hx
    obtain ⟨h, hh, rfl⟩ := Option.map_eq_some_iff.mp hb
    exact ⟨h, (show h.view.agent = b from agent_of_holder hh) ▸ hh, rfl⟩
  have hu : ∀ x ∈ (r.view k).holders, decide (x.agent.val = a.val) = true → some x = (r.holder a).map Holder.view := by
    intro x hx hp
    obtain ⟨h, hh, rfl⟩ := hm x hx
    rw [← Fin.ext (of_decide_eq_true hp), hh, Option.map_some]
  cases ha : r.holder a with
  | none =>
    rw [Option.map_none, List.find?_eq_none]
    intro x hx hp
    have := hu x hx hp
    simp [ha] at this
  | some h =>
    refine find?_eq_of_unique (List.mem_filterMap.mpr ⟨a, List.mem_finRange a, by rw [ha]; rfl⟩) ?_ fun y hy hp => ?_
    · exact decide_eq_true (congrArg Fin.val (agent_of_holder ha))
    · have := hu y hy hp
      rw [ha] at this
      exact Option.some.inj this

theorem heldBy_iff {r : Record} {a : Agent} : r.heldBy a = true ↔ a ∈ r.holders.map (·.agent) := by
  simp [Record.heldBy, Record.holder, List.find?_isSome]

/-- The view has as many holders as the record (R19). -/
theorem length_view_holders {r : Record} (hn : (r.holders.map (·.agent)).Nodup) (k : Handle) :
    (r.view k).holders.length = r.holders.length := by
  have hv : (r.view k).holders.map (·.agent) = allAgents.filter r.heldBy := by
    rw [← List.filterMap_eq_filter]
    refine (List.map_filterMap ..).trans (List.filterMap_congr fun a _ => ?_)
    cases h : r.holder a with
    | none => simp [Option.guard, Record.heldBy, h]
    | some x => simp [Option.guard, Record.heldBy, h, Holder.view, agent_of_holder h]
  have hp : (allAgents.filter r.heldBy).Perm (r.holders.map (·.agent)) :=
    (List.perm_ext_iff_of_nodup ((List.nodup_finRange 8).filter _) hn).mpr fun a => by
      rw [List.mem_filter, heldBy_iff]; exact and_iff_right (List.mem_finRange a)
  rw [← List.length_map (as := (r.view k).holders) (·.agent), hv, hp.length_eq, List.length_map]

theorem holderPage_held {r : Record} {k : Handle} {a : Agent} {h : Holder} (hh : r.holder a = some h) :
    (r.view k).holderPage a.val =
      [1, h.mode.code, natCode h.priority.val, boolCode h.asked] ++ bytesOf h.ticket ++ bytesOf h.remaining.code := by
  rw [QueryView.holderPage, find_view_holders, hh]
  rfl

theorem holderPage_not_held {r : Record} {k : Handle} {a : Agent} (hh : r.heldBy a = false) :
    (r.view k).holderPage a.val = 0 :: List.replicate 11 0xFF := by
  have : r.holder a = none := by simpa [Record.heldBy] using hh
  rw [QueryView.holderPage, find_view_holders, this]
  rfl

/-! ### The window as a read shows it -/

theorem length_paramsBytes (p : Params) : p.bytes.length = 49 := by simp [Params.bytes, length_bytesOf]

theorem length_resultBytes (c : Channel) : c.resultBytes.length = 24 := by
  simp [Channel.resultBytes, length_bytesOf]

/-- Addresses 50h to 5Fh read the page of a QUERY view that VIEWPAGE names (R184). -/
theorem readRegister_view {d : Device} {a : Agent} {v : QueryView} (h : (d.chan a).results.window = .view v)
    {n : Nat} (hn : n < 16) :
    d.readRegister a (0x50 + BitVec.ofNat 7 n) = (v.page (d.chan a).viewPage.toNat).getD n 0 := by
  have ha : ((0x50 : RegAddr) + BitVec.ofNat 7 n).toNat = 80 + n := by
    rw [BitVec.toNat_add, BitVec.toNat_ofNat, Nat.mod_eq_of_lt (a := n) (by omega)]
    exact Nat.mod_eq_of_lt (by simp; omega)
  have hw : ((d.chan a).results.window.bytes (d.chan a).viewPage) = v.page (d.chan a).viewPage.toNat := by
    rw [h]; rfl
  have hl : (v.page (d.chan a).viewPage.toNat).length = 16 := length_pad16 _
  unfold Device.readRegister Device.registerBlock
  dsimp only
  rw [ha, hw]
  simp only [List.getD_eq_getElem?_getD, List.append_assoc]
  congr 1
  rw [List.getElem?_append_right (by rw [length_paramsBytes]; omega), length_paramsBytes,
    List.getElem?_append_right (by simp; omega), List.length_replicate,
    List.getElem?_append_right (by rw [length_resultBytes]; omega), length_resultBytes,
    List.getElem?_append_left (by omega)]
  congr 1
  omega

/-- Settles O31, with the view that `takeQuery` stores. -/
theorem queryShowsTheRecord : Obligations.QueryShowsTheRecord := by
  intro s d d₁ ch w e r hs hl hn
  have ht : ∀ v, takeQuery ch ((d₁.params ch).latch .query) (d₁.withChannels v) = (d₁.withChannels v, some
      { result := .ok, handle := some (d₁.params ch).handle, window := .view (r.view (d₁.params ch).handle) }) := by
    intro v
    have hl' : (d₁.withChannels v).lookup ((d₁.params ch).latch .query).handle = .ok (e, r) := hl
    simp only [takeQuery, hl']
    rfl
  refine ⟨r.view (d₁.params ch).handle, exec_of_online hs rfl rfl ht, fun n hn => ?_, ?_, ?_, fun h hh => ?_,
    fun a ha => ?_, fun n hn => page_ten hn⟩
  · have hc : ∀ x, (d₁.answered ch .query x).chan ch = (d₁.chan ch).answer .query x := fun x => tget_tset_same ..
    rw [readRegister_view (by rw [hc]; rfl) hn, hc]
    rfl
  · rw [page_zero]
    rw [QueryView.page0, length_view_holders hn]
    cases hq : r.queue <;> cases ho : r.origin <;>
      simp only [Record.view, hq, ho, List.append_assoc, List.cons_append, List.nil_append] <;> rfl
  · rw [page_one]
    rw [QueryView.page1]
    cases hg : r.group <;> cases hl : r.lifecycle <;> rcases ho : r.occupancy with _ | _ | _ | (_ | _) | _ <;>
      simp only [Record.view, hg, hl, ho, List.append_assoc, List.cons_append, List.nil_append] <;> rfl
  · rw [page_holder, holderPage_held (holder_eq_some hn hh)]
    rfl
  · rw [page_holder, holderPage_not_held ha]

end Sys2Proof.Machine
end

section
/-!
PROOFS. The parameters of DEFINE and AMEND (R12), and the two commands (R13 to R17, R90, R115).
-/
namespace Sys2Proof.Machine

/-! ### What the parameter codes come to -/

section
variable {p : Params}

theorem recordTerm_bad {v : BitVec 32} (h : badTerm v) : recordTerm v = none := by
  unfold recordTerm
  rcases h with rfl | ⟨h, hv⟩
  · rfl
  · rw [if_neg hv, if_neg (by omega)]

theorem recordTerm_good {v : BitVec 32} (h : ¬ badTerm v) : recordTerm v = some (givenTerm v) := by
  unfold recordTerm givenTerm
  split
  · rfl
  · next hv =>
    have h0 : v.toNat ≠ 0 := fun h0 => h (.inl (BitVec.eq_of_toNat_eq h0))
    have h1 : ¬ 65535 < v.toNat := fun h1 => h (.inr ⟨h1, hv⟩)
    rw [if_pos (by omega)]

theorem givenTerm_eq_unbounded {v : BitVec 32} : (givenTerm v == .unbounded) = decide (v = 0xFFFFFFFF) := by
  unfold givenTerm; split <;> simp_all

/-- UNBOUNDED is the greatest code, so terms stand in the order of their codes. -/
theorem le_givenTerm (v w : BitVec 32) : (givenTerm v).le (givenTerm w) = decide (v.toNat ≤ w.toNat) := by
  have hv := v.isLt
  have hw := w.isLt
  have top : ∀ x : BitVec 32, x.toNat < 4294967295 ∨ x = 0xFFFFFFFF := fun x => by
    by_cases h : x = 0xFFFFFFFF
    · exact .inr h
    · refine .inl (lt_of_le_of_ne (by omega) fun h' => h (BitVec.eq_of_toNat_eq h'))
  unfold givenTerm
  split
  · next h1 =>
    subst h1
    split
    · next h2 => subst h2; rfl
    · next h2 =>
      have h := (top w).resolve_right h2
      exact (decide_eq_false (Nat.not_le.mpr h)).symm
  · split
    · next h2 => subst h2; exact (decide_eq_true (Nat.lt_succ_iff.mp hv)).symm
    · rfl

theorem graceOf_eq (v : BitVec 16) : graceOf v = if v = 0 ∨ 4095 < v.toNat then none else some v.toNat := by
  have h0 : v = 0 ↔ v.toNat = 0 := ⟨fun h => h ▸ rfl, fun h => BitVec.eq_of_toNat_eq h⟩
  unfold graceOf
  split <;> split <;> simp_all <;> omega

/-- POLICY with GRACE is out of range (R12). -/
def badPolicy (v : Byte) (grace : BitVec 16) : Prop :=
  2 < v.toNat ∨ (v = 2 ∧ (grace = 0 ∨ 4095 < grace.toNat))

theorem policyOf_bad {v : Byte} {g : BitVec 16} (h : badPolicy v g) : policyOf v g = none := by
  unfold policyOf
  rcases h with h | ⟨rfl, h⟩
  · rw [if_neg (by rintro rfl; simp at h), if_neg (by rintro rfl; simp at h), if_neg (by rintro rfl; simp at h)]
  · rw [graceOf_eq, if_pos h]; rfl

theorem policyOf_good {v : Byte} {g : BitVec 16} (h : ¬ badPolicy v g) :
    policyOf v g = some (if v = 0 then .none else if v = 1 then .ask else .force g.toNat) := by
  unfold policyOf
  split
  · rfl
  · split
    · rfl
    · next h0 h1 =>
      have h2 : v = 2 := by
        have : v.toNat ≤ 2 := by by_contra hc; exact h (.inl (by omega))
        have h0' : v.toNat ≠ 0 := fun h' => h0 (BitVec.eq_of_toNat_eq h')
        have h1' : v.toNat ≠ 1 := fun h' => h1 (BitVec.eq_of_toNat_eq h')
        exact BitVec.eq_of_toNat_eq (show v.toNat = 2 by omega)
      rw [if_pos h2, graceOf_eq, if_neg fun hg => h (.inr ⟨h2, hg⟩)]
      rfl

theorem groupOf_eq_some {v : Byte} {g : GroupIx} (h : v.toNat = g.val + 1) : groupOf v = some g := by
  have hg := g.isLt
  rw [groupOf, dif_pos (by omega)]
  exact congrArg some (Fin.ext (by simp [h]))

theorem groupOf_bad {v : Byte} (h : 4 < v.toNat) : groupOf v = none := dif_neg (by omega)

theorem agentOf_eq_some {v : Byte} {a : Agent} (h : v.toNat = a.val) : agentOf v = some a := by
  rw [agentOf, dif_pos (by omega)]
  exact congrArg some (Fin.ext h)

theorem homeOf_agent {v : Byte} {a : Agent} (h : v.toNat = a.val) : homeOf v = some (.agent a) := by
  rw [homeOf, if_neg (by rintro rfl; have := a.isLt; simp at h; omega), agentOf_eq_some h]
  rfl

theorem homeOf_bad {v : Byte} (h : 8 < v.toNat) : homeOf v = none := by
  rw [homeOf, if_neg (by rintro rfl; simp at h), agentOf, dif_neg (by omega)]
  rfl

theorem parkPolicyOf_bad {v : Byte} (h : 1 < v.toNat) : parkPolicyOf v = none := by
  rw [parkPolicyOf, if_neg (by rintro rfl; simp at h), if_neg (by rintro rfl; simp at h)]

theorem parkPolicyOf_good {v : Byte} (h : v.toNat ≤ 1) : parkPolicyOf v = some (if v = 0 then .stay else .home) := by
  rcases Nat.le_one_iff_eq_zero_or_eq_one.mp h with h | h
  · obtain rfl : v = 0 := BitVec.eq_of_toNat_eq h
    rfl
  · obtain rfl : v = 1 := BitVec.eq_of_toNat_eq h
    rfl

end

/-! ### The steering part -/

section
variable {p : Params}

theorem steerOf_zero (h : p.group = 0) : steerOf p = some none := by rw [steerOf, if_pos h]

theorem steerOf_bad (h0 : p.group ≠ 0) (h : 4 < p.group.toNat ∨ 8 < p.home.toNat ∨ 1 < p.parkpol.toNat) :
    steerOf p = none := by
  rw [steerOf, if_neg h0]
  rcases h with h | h | h
  · simp only [groupOf_bad h]
  · simp only [homeOf_bad h]; cases groupOf p.group <;> rfl
  · simp only [parkPolicyOf_bad h]; cases groupOf p.group <;> cases homeOf p.home <;> rfl

/-- A steering part in range names a group, and gives the binding to any entry (R115). -/
theorem steerOf_good (h0 : p.group ≠ 0) (h4 : p.group.toNat ≤ 4) (h8 : p.home.toNat ≤ 8) (h1 : p.parkpol.toNat ≤ 1) :
    ∃ q, steerOf p = some (some q) ∧ p.group.toNat = q.group.val + 1 := by
  have hg : p.group.toNat ≠ 0 := fun h => h0 (BitVec.eq_of_toNat_eq h)
  obtain ⟨g, hg⟩ : ∃ g : GroupIx, p.group.toNat = g.val + 1 := ⟨⟨p.group.toNat - 1, by omega⟩, by simp; omega⟩
  obtain ⟨h, hh⟩ : ∃ h, homeOf p.home = some h := by
    rcases Nat.lt_or_eq_of_le h8 with hl | he
    · exact ⟨_, homeOf_agent (a := ⟨p.home.toNat, hl⟩) rfl⟩
    · exact ⟨.park, by rw [show p.home = 8 from BitVec.eq_of_toNat_eq he]; rfl⟩
  refine ⟨⟨g, h, if p.parkpol = 0 then .stay else .home, p.swtimeout.toNat⟩, ?_, hg⟩
  rw [steerOf, if_neg h0, groupOf_eq_some hg, hh, parkPolicyOf_good h1]

/-- The steering part that a DEFINE or an AMEND gives (R115). -/
theorem steerOf_of_steers {d : Device} {e : EntryIx} {g : GroupIx} {b : Binding}
    (h : p.Steers e d.config.swTimeout g b) (h1 : p.parkpol.toNat ≤ 1) :
    ∃ q, steerOf p = some (some q) ∧ q.group = g ∧ d.bindingOf e q = b := by
  obtain ⟨hg, he, hh, hk, ht⟩ := h
  have hz : p.swtimeout.toNat = 0 ↔ p.swtimeout = 0 := ⟨fun h => BitVec.eq_of_toNat_eq h, fun h => h ▸ rfl⟩
  have hh' : homeOf p.home = some b.home := by
    rcases hh with ⟨h8, hb⟩ | ⟨a, ha, hb⟩
    · rw [h8, hb]; rfl
    · rw [homeOf_agent ha, hb]
  refine ⟨⟨g, b.home, b.parkPolicy, p.swtimeout.toNat⟩, ?_, rfl, ?_⟩
  · rw [steerOf, if_neg (by rintro h; rw [h] at hg; simp at hg), groupOf_eq_some hg, hh', parkPolicyOf_good h1, hk]
  · cases b
    simp only [Device.bindingOf, hz] at *
    rw [he, ht]

end

/-! ### The consistency checks (R12) -/

section
variable {p : Params}

theorem sharing_eq_sharedAllowed {v : Byte} (h : ¬ 1 < v.toNat) :
    (if v = 0 then SharingClass.exclusiveOnly else .sharedAllowed) = .sharedAllowed ↔ v = 1 := by
  rcases Nat.le_one_iff_eq_zero_or_eq_one.mp (Nat.not_lt.mp h) with h | h
  · obtain rfl : v = 0 := BitVec.eq_of_toNat_eq h
    simp
  · obtain rfl : v = 1 := BitVec.eq_of_toNat_eq h
    simp

/-- What the checks of R12 answer, once each register is in range by itself. -/
theorem recordParams_in_range {st : Option SteerParams} (hs : ¬ 1 < p.sharing.toNat) (hp : ¬ badPolicy p.policy p.grace)
    (hd : ¬ badTerm p.defterm) (hm : ¬ badTerm p.maxterm) (hst : steerOf p = some st) :
    recordParams p =
      if (p.options.getLsbD 1 = false ∧ (p.defterm = 0xFFFFFFFF ∨ p.maxterm = 0xFFFFFFFF)) ∨
        p.maxterm.toNat < p.defterm.toNat ∨ (st.isSome = true ∧ p.sharing = 1) then none
      else some
        { sharing := if p.sharing = 0 then .exclusiveOnly else .sharedAllowed
          policy := if p.policy = 0 then .none else if p.policy = 1 then .ask else .force p.grace.toNat
          defaultTerm := givenTerm p.defterm, maxTerm := givenTerm p.maxterm
          unboundedAllowed := p.options.getLsbD 1, steer := st } := by
  unfold recordParams
  simp only [sharingOf_eq_some (Nat.not_lt.mp hs), policyOf_good hp, recordTerm_good hd, recordTerm_good hm, hst,
    RecordParams.unboundedRefused, givenTerm_eq_unbounded, le_givenTerm]
  generalize hc : (if p.sharing = 0 then SharingClass.exclusiveOnly else .sharedAllowed) = c
  have hsh : c = .sharedAllowed ↔ p.sharing = 1 := hc ▸ sharing_eq_sharedAllowed hs
  by_cases h1 : p.options.getLsbD 1 = false ∧ (p.defterm = 0xFFFFFFFF ∨ p.maxterm = 0xFFFFFFFF)
  · rw [if_pos (by simpa using h1), if_pos (.inl h1)]
  rw [if_neg (by simpa using h1)]
  by_cases h2 : p.maxterm.toNat < p.defterm.toNat
  · rw [if_pos (by simpa using h2), if_pos (.inr (.inl h2))]
  rw [if_neg (by simpa using h2)]
  by_cases h3 : st.isSome = true ∧ p.sharing = 1
  · rw [if_pos (by simpa [hsh] using h3), if_pos (.inr (.inr h3))]
  rw [if_neg (by simpa [hsh] using h3)]
  exact (if_neg (by tauto)).symm

/-- Inconsistent parameters are refused (R12). -/
theorem recordParams_inconsistent (h : p.Inconsistent) : recordParams p = none := by
  by_cases hs : 1 < p.sharing.toNat
  · simp [recordParams, sharingOf_eq_none hs]
  by_cases hp : badPolicy p.policy p.grace
  · simp only [recordParams, policyOf_bad hp]; cases sharingOf p.sharing <;> rfl
  by_cases hd : badTerm p.defterm
  · simp only [recordParams, recordTerm_bad hd]; cases sharingOf p.sharing <;> cases policyOf p.policy p.grace <;> rfl
  by_cases hm : badTerm p.maxterm
  · simp only [recordParams, recordTerm_bad hm, recordTerm_good hd]
    cases sharingOf p.sharing <;> cases policyOf p.policy p.grace <;> rfl
  cases hst : steerOf p with
  | none =>
    simp only [recordParams, hst, recordTerm_good hm, recordTerm_good hd]
    cases sharingOf p.sharing <;> cases policyOf p.policy p.grace <;> rfl
  | some st =>
    rw [recordParams_in_range hs hp hd hm hst, if_pos]
    have h0 : p.group ≠ 0 → ¬ (4 < p.group.toNat ∨ 8 < p.home.toNat ∨ 1 < p.parkpol.toNat) := fun h0 hb => by
      rw [steerOf_bad h0 hb] at hst; cases hst
    have hsome : p.group ≠ 0 → st.isSome = true := fun hg => by
      have hn := h0 hg
      obtain ⟨q, hq, -⟩ := steerOf_good hg (by omega) (by omega) (by omega)
      rw [hq] at hst; cases hst; rfl
    have hg0 : 4 < p.group.toNat → p.group ≠ 0 := fun h h0 => by rw [h0] at h; simp at h
    unfold Params.Inconsistent at h
    unfold badPolicy at hp
    tauto

/-- Consistent parameters are taken, and written as R13 and R15 say. -/
theorem recordParams_consistent (h : ¬ p.Inconsistent) :
    ∃ q, recordParams p = some q ∧ steerOf p = some q.steer ∧ q.unboundedAllowed = p.options.getLsbD 1 ∧
      (∀ r, q.amend r = p.written r (q.steer.map (·.group))) ∧
      ∀ k, q.record k = p.written (newRecord k .defined) (q.steer.map (·.group)) := by
  unfold Params.Inconsistent at h
  push Not at h
  obtain ⟨hs, hp, hg, hd, hm, hu, hl, h4, hst⟩ := h
  have hp' : ¬ badPolicy p.policy p.grace := by
    unfold badPolicy
    rintro (h | ⟨h2, h | h⟩)
    · omega
    · exact (hg h2).1 h
    · exact absurd (hg h2).2 (by omega)
  obtain ⟨st, hst'⟩ : ∃ st, steerOf p = some st ∧ ¬ (st.isSome = true ∧ p.sharing = 1) := by
    by_cases h0 : p.group = 0
    · exact ⟨none, steerOf_zero h0, by simp⟩
    · obtain ⟨h8, h1, hsh⟩ := hst h0
      obtain ⟨q, hq, -⟩ := steerOf_good h0 h4 h8 h1
      exact ⟨_, hq, fun h => hsh h.2⟩
  refine ⟨_, (recordParams_in_range (by omega) hp' hd hm hst'.1).trans (if_neg ?_), hst'.1, rfl, fun _ => rfl, fun _ => rfl⟩
  rintro (⟨ho, h | h⟩ | h | h)
  · exact (hu ho).1 h
  · exact (hu ho).2 h
  · omega
  · exact hst'.2 h

theorem getLsbD_and_two (v : Byte) : (v &&& 0x02).getLsbD 1 = v.getLsbD 1 := by simp

/-- DEFINE and AMEND latch every register that these checks read (Table 69). -/
theorem recordParams_latchRecord (p : Params) : recordParams p.latchRecord = recordParams p := by
  unfold recordParams
  simp only [Params.latchRecord, getLsbD_and_two]
  rfl

end

end Sys2Proof.Machine
end

section
/-!
PROOFS. DEFINE and AMEND: the binding of a group as one write of its entry and one of the group (R13 to R17, R90, R115).
-/
namespace Sys2Proof.Machine

/-! ### Records and groups written in place -/

section
variable {d : Device} {e : EntryIx} {r : Record} {g : GroupIx}

theorem modifyEntry_eq_putRecord (hr : d.entry e = some r) (f : Record → Record) :
    d.modifyEntry e f = d.putRecord e (f r) := by
  have hs : (d.slot e).record = some r := hr
  unfold Device.modifyEntry
  rw [hs]
  rfl

theorem putRecord_self (hr : d.entry e = some r) : d.putRecord e r = d := by
  have : ({ tget d.slots e with record := some r } : Slot) = tget d.slots e := by
    rw [← show (tget d.slots e).record = some r from hr]
  rw [Device.putRecord, this, tset_tget]

@[simp] theorem setGroup_self (d : Device) (g : GroupIx) : d.setGroup g (d.group g) = d := by
  rw [Device.setGroup, Device.group, tset_tget]

theorem entry_putRecord (d : Device) (e x : EntryIx) (r : Record) :
    (d.putRecord e r).entry x = if e = x then some r else d.entry x := by
  unfold Device.entry Device.slot
  rw [Device.putRecord_slots, tget_tset]
  split <;> rfl

theorem putRecord_putRecord (d : Device) (e : EntryIx) (r r' : Record) :
    (d.putRecord e r).putRecord e r' = d.putRecord e r' := by
  simp [Device.putRecord]

theorem setGroup_setGroup (d : Device) (g : GroupIx) (x y : GroupRec) :
    (d.setGroup g x).setGroup g y = d.setGroup g y := by
  simp [Device.setGroup]

theorem setGroup_putRecord (d : Device) (g : GroupIx) (x : GroupRec) (e : EntryIx) (r : Record) :
    (d.setGroup g x).putRecord e r = (d.putRecord e r).setGroup g x := rfl

theorem group_putRecord (d : Device) (e : EntryIx) (r : Record) (g : GroupIx) :
    (d.putRecord e r).group g = d.group g := rfl

/-- A switch started on a bound group writes its entry and the group (R117, R118). -/
theorem startSwitch_eq {b : Binding} (hb : (d.group g).binding = some b) (hr : d.entry e = some r) (t : SwitchTarget) :
    d.startSwitch e g t =
      (d.putRecord e { r with occupancy := .switching t, queue := markTarget t r.queue }).setGroup g
        (if (d.group g).stdone = true then { d.group g with state := .switching, phase := some .deferred }
         else { d.group g with
          state := .switching, settleKnown := false, select := b.targetValue t, phase := some (.requesting b.timeout) }) := by
  unfold Device.startSwitch
  split
  · next h => rw [hb] at h; cases h
  · next b' h =>
    cases hb.symm.trans h
    rw [modifyEntry_eq_putRecord hr]
    rfl

/-! ### Binding (R115) -/

/-- A switch to home, where one is due on the bound group of an idle entry, is one write of the entry and one of the
group (R115, R117, R118). -/
theorem returnHome_eq {b : Binding} (hb : (d.group g).binding = some b) (hr : d.entry e = some r)
    (hi : r.occupancy = .idle) :
    d.returnHome e g =
      (d.putRecord e { r with occupancy := (d.group g).homeOccupancy b }).setGroup g ((d.group g).homeward b) := by
  have hdue : (d.group g).homeDue = true ↔ b.parkPolicy = .home ∧ (d.group g).select ≠ b.home := by
    simp [GroupRec.homeDue, hb]
  unfold Device.returnHome GroupRec.homeOccupancy GroupRec.homeward
  by_cases h : b.parkPolicy = .home ∧ (d.group g).select ≠ b.home
  · rw [if_pos (hdue.mpr h), if_pos h, if_pos h]
    exact startSwitch_eq hb hr .home
  · rw [if_neg (mt hdue.mp h), if_neg h, if_neg h, ← hi, putRecord_self hr, setGroup_self]

/-- A group bound to an idle entry (R115). -/
theorem bindGroup_eq {q : SteerParams} (hr : d.entry e = some r) (hi : r.occupancy = .idle) :
    d.bindGroup e q =
      (d.putRecord e { r with occupancy := (d.group q.group).homeOccupancy (d.bindingOf e q) }).setGroup q.group
        (((d.group q.group).newlyBound (d.bindingOf e q)).homeward (d.bindingOf e q)) := by
  have hx : (d.setGroup q.group ((d.group q.group).newlyBound (d.bindingOf e q))).group q.group =
      (d.group q.group).newlyBound (d.bindingOf e q) := by simp
  have h := returnHome_eq (d := d.setGroup q.group ((d.group q.group).newlyBound (d.bindingOf e q)))
    (g := q.group) (by rw [hx]; rfl) hr hi
  rw [hx, setGroup_putRecord, setGroup_setGroup] at h
  exact h

/-- The group of an idle entry bound to it again (R15, R115). -/
theorem rebindGroup_eq {q : SteerParams} (hr : d.entry e = some r) (hi : r.occupancy = .idle) :
    d.rebindGroup e q =
      (d.putRecord e { r with occupancy := (d.group q.group).homeOccupancy (d.bindingOf e q) }).setGroup q.group
        (({ d.group q.group with binding := some (d.bindingOf e q) } : GroupRec).homeward (d.bindingOf e q)) := by
  have hx : (d.setGroup q.group { d.group q.group with binding := some (d.bindingOf e q) }).group q.group =
      { d.group q.group with binding := some (d.bindingOf e q) } := by simp
  have h := returnHome_eq (d := d.setGroup q.group { d.group q.group with binding := some (d.bindingOf e q) })
    (g := q.group) (by rw [hx]) hr hi
  rw [hx, setGroup_putRecord, setGroup_setGroup] at h
  exact h

end

/-! ### The channels play no part in binding -/

section
variable (d : Device) (v : Vector Channel 8) (e : EntryIx)

@[simp] theorem returnHome_withChannels (g : GroupIx) :
    (d.withChannels v).returnHome e g = (d.returnHome e g).withChannels v := by
  unfold Device.returnHome
  change (if (d.group g).homeDue = true then _ else _) = _
  split <;> simp

@[simp] theorem bindGroup_withChannels (q : SteerParams) :
    (d.withChannels v).bindGroup e q = (d.bindGroup e q).withChannels v :=
  returnHome_withChannels (d.setGroup q.group ((d.group q.group).newlyBound (d.bindingOf e q))) v e q.group

@[simp] theorem rebindGroup_withChannels (q : SteerParams) :
    (d.withChannels v).rebindGroup e q = (d.rebindGroup e q).withChannels v :=
  returnHome_withChannels (d.setGroup q.group { d.group q.group with binding := some (d.bindingOf e q) }) v e q.group

@[simp] theorem unbindGroup_withChannels (g : Option GroupIx) :
    (d.withChannels v).unbindGroup g = (d.unbindGroup g).withChannels v := by
  cases g <;> rfl

@[simp] theorem bindNamed_withChannels (q : Option SteerParams) :
    (d.withChannels v).bindNamed e q = (d.bindNamed e q).withChannels v := by
  cases q with
  | none => rfl
  | some q => exact bindGroup_withChannels ..

@[simp] theorem amendGroup_withChannels (g : Option GroupIx) (q : Option SteerParams) :
    (d.withChannels v).amendGroup e g q = (d.amendGroup e g q).withChannels v := by
  cases q with
  | none => exact unbindGroup_withChannels ..
  | some q =>
    unfold Device.amendGroup
    dsimp only
    split <;> simp

@[simp] theorem groupBound_withChannels (q : Option SteerParams) : (d.withChannels v).groupBound q = d.groupBound q := rfl
@[simp] theorem groupTaken_withChannels (q : Option SteerParams) :
    (d.withChannels v).groupTaken e q = d.groupTaken e q := rfl

end

theorem groupOf_toNat {v : Byte} {g : GroupIx} (h : groupOf v = some g) : v.toNat = g.val + 1 := by
  unfold groupOf at h
  split at h
  · cases h; simp; omega
  · cases h

/-- A steering part names the group that GROUP gives, and is absent where GROUP is 0. -/
theorem steerOf_cases {p : Params} {st : Option SteerParams} (h : steerOf p = some st) :
    (p.group = 0 ∧ st = none) ∨ ∃ q, st = some q ∧ p.group.toNat = q.group.val + 1 := by
  unfold steerOf at h
  split at h
  · next h0 => cases h; exact .inl ⟨h0, rfl⟩
  · split at h
    · next hg _ _ => cases h; exact .inr ⟨_, rfl, groupOf_toNat hg⟩
    · cases h

/-- Consistent parameters that name a group have PARKPOL in range. -/
theorem parkpol_le {p : Params} (h : ¬ p.Inconsistent) {g : GroupIx} (hg : p.group.toNat = g.val + 1) :
    p.parkpol.toNat ≤ 1 := by
  by_contra hk
  refine h ?_
  have h0 : p.group ≠ 0 := fun h0 => by rw [h0] at hg; simp at hg
  unfold Params.Inconsistent
  exact .inr (.inr (.inr (.inr (.inr (.inr (.inr (.inr ⟨h0, .inr (.inl (by omega))⟩)))))))

/-! ### What DEFINE and AMEND do -/

section
variable {d : Device} {a : Agent} {p : Params} {q : RecordParams} {e : EntryIx} {r : Record}

/-- DEFINE and AMEND read the parameters of R12 alone, beside KEY and HANDLE. -/
theorem recordParams_latch_define (p : Params) : recordParams (p.latch .define) = recordParams p :=
  recordParams_latchRecord p

theorem recordParams_latch_amend (p : Params) : recordParams (p.latch .amend) = recordParams p :=
  recordParams_latchRecord p

theorem takeDefine_found (hq : recordParams p = some q) (hf : d.findKey p.key = some (e, r)) (v : Vector Channel 8) :
    takeDefine a p (d.withChannels v) = done (d.withChannels v) (if r.isRetiring then .retiring else .alreadyExists) := by
  simp only [takeDefine, hq, findKey_withChannels, hf]

theorem takeDefine_inUse (hq : recordParams p = some q) (hf : d.findKey p.key = none) (hg : d.groupBound q.steer = true)
    (v : Vector Channel 8) : takeDefine a p (d.withChannels v) = done (d.withChannels v) .inUse := by
  simp only [takeDefine, hq, findKey_withChannels, hf, groupBound_withChannels, hg, if_true]

theorem takeDefine_tableFull (hq : recordParams p = some q) (hf : d.findKey p.key = none)
    (hg : d.groupBound q.steer = false) (hs : d.freeSlot = none) (v : Vector Channel 8) :
    takeDefine a p (d.withChannels v) = done (d.withChannels v) .tableFull := by
  simp only [takeDefine, hq, findKey_withChannels, hf, groupBound_withChannels, hg, freeSlot_withChannels, hs]
  rfl

theorem takeDefine_ok (hq : recordParams p = some q) (hf : d.findKey p.key = none)
    (hg : d.groupBound q.steer = false) (hs : d.freeSlot = some e) (v : Vector Channel 8) :
    takeDefine a p (d.withChannels v) =
      (((d.createRecord e (q.record p.key)).bindNamed e q.steer).withChannels v,
       some { result := .ok, handle := some (d.handleFor e) }) := by
  simp only [takeDefine, hq, findKey_withChannels, hf, groupBound_withChannels, hg, freeSlot_withChannels, hs,
    createRecord_withChannels, bindNamed_withChannels, handleFor_withChannels]
  rfl

end

section
variable {s : State} {d d₁ : Device} {ch : Agent} {w : Writes}

/-- A DEFINE that ends with a bare result. -/
theorem exec_define_done (h : StartsControl s d ch .define w d₁) {c : ResultCode}
    (ht : ∀ v, takeDefine ch ((d₁.params ch).latch .define) (d₁.withChannels v) = done (d₁.withChannels v) c) :
    exec (.define ch w) s = .next (s.withDev (d₁.answered ch .define { result := c })) :=
  exec_of_control h rfl ht

/-- An AMEND that ends with a bare result, with the device `d'` after it. -/
theorem exec_amend_done (h : StartsControl s d ch .amend w d₁) {d' : Device} {c : ResultCode}
    (hc : d'.channels = d₁.channels)
    (ht : ∀ v, takeAmend ch ((d₁.params ch).latch .amend) (d₁.withChannels v) = done (d'.withChannels v) c) :
    exec (.amend ch w) s = .next (s.withDev (d'.answered ch .amend { result := c })) :=
  exec_of_control h hc ht

end

theorem channels_startSwitch (d : Device) (e : EntryIx) (g : GroupIx) (t : SwitchTarget) :
    (d.startSwitch e g t).channels = d.channels := by
  unfold Device.startSwitch; split <;> rfl

theorem channels_returnHome (d : Device) (e : EntryIx) (g : GroupIx) : (d.returnHome e g).channels = d.channels := by
  unfold Device.returnHome; split
  · exact channels_startSwitch ..
  · rfl

theorem channels_bindNamed (d : Device) (e : EntryIx) (q : Option SteerParams) :
    (d.bindNamed e q).channels = d.channels := by
  cases q with
  | none => rfl
  | some q => exact channels_returnHome ..

/-- Settles O32, from what the checks of R12 answer. -/
theorem parametersAreCheckedForConsistency : Obligations.ParametersAreCheckedForConsistency := by
  refine ⟨fun s d d₁ ch w h => ⟨fun hp => exec_define_done h fun v => ?_, fun hp => ?_⟩,
    fun s d d₁ ch w e r h hl he hp => exec_amend_done h rfl fun v => ?_⟩
  · have hq := (recordParams_latch_define _).trans (recordParams_inconsistent hp)
    simp only [takeDefine, hq]
  · obtain ⟨q, hq, -⟩ := recordParams_consistent hp
    have hq' := (recordParams_latch_define _).trans hq
    cases hf : d₁.findKey ((d₁.params ch).latch .define).key with
    | some x => exact ⟨d₁, _, exec_define_done h (takeDefine_found hq' hf), by dsimp only; split <;> simp⟩
    | none =>
      cases hg : d₁.groupBound q.steer with
      | true => exact ⟨d₁, _, exec_define_done h (takeDefine_inUse hq' hf hg), by simp⟩
      | false =>
        cases hs : d₁.freeSlot with
        | none => exact ⟨d₁, _, exec_define_done h (takeDefine_tableFull hq' hf hg hs), by simp⟩
        | some e =>
          exact ⟨_, { result := .ok, handle := some (d₁.handleFor e) }, exec_of_control h
            (channels_bindNamed (d₁.createRecord e _) e q.steer) (takeDefine_ok (a := ch) hq' hf hg hs), by simp⟩
  · have hq := (recordParams_latch_amend _).trans (recordParams_inconsistent hp)
    have hl' : (d₁.withChannels v).lookup ((d₁.params ch).latch .amend).handle = .ok (e, r) := hl
    simp only [takeAmend, hl', if_neg he, hq]

/-! ### DEFINE (R13) -/

/-- Settles O33: each clause is one path through `takeDefine`, and the binding is that of `bindGroup_eq`. -/
theorem defineCreatesAndBinds : Obligations.DefineCreatesAndBinds := by
  intro s d d₁ ch w h hd p hp refused absent
  obtain ⟨q, hq, hst, -, -, hw⟩ := recordParams_consistent hp
  have hq' := (recordParams_latch_define p).trans hq
  have hf : absent → d₁.findKey (p.latch .define).key = none := fun ha => findKey_eq_none_iff.mpr ha
  have hfree : (∀ g : GroupIx, p.group.toNat = g.val + 1 → (d₁.group g).binding = none) →
      d₁.groupBound q.steer = false := fun hg => by
    rcases steerOf_cases hst with ⟨-, hn⟩ | ⟨x, hx, hxg⟩
    · rw [hn]; rfl
    · simp [hx, Device.groupBound, hg _ hxg]
  have ends : absent → d₁.groupBound q.steer = false → ∀ e, d₁.entry e = none → (∀ x < e, d₁.entry x ≠ none) →
      exec (.define ch w) s = .next (s.withDev (((d₁.createRecord e (q.record p.key)).bindNamed e q.steer).answered ch
        .define { result := .ok, handle := some (BitVec.ofNat 16 (e.val * 256 + (d₁.slot e).generation.toNat)) })) := by
    intro ha hb e he hl
    rw [← handleFor_eq]
    exact exec_of_control h (channels_bindNamed (d₁.createRecord e _) e q.steer)
      (takeDefine_ok (a := ch) hq' (hf ha) hb (freeSlot_eq_some he hl))
  refine ⟨fun e r hr hk => ?_, fun g b ha hg hb => ?_, fun ha hg hs => ?_, fun e ha he hl =>
    ⟨fun h0 => ?_, fun g b hs hb => ?_⟩⟩
  · have hf' : d₁.findKey (p.latch .define).key = some (e, r) := findKey_of_entry hd hr hk
    refine ⟨fun hl => exec_define_done h fun v => ?_, fun hl => exec_define_done h fun v => ?_⟩
    · rw [takeDefine_found hq' hf', isRetiring_of_live hl]; rfl
    · rw [takeDefine_found hq' hf', isRetiring_iff.mpr hl]; rfl
  · refine exec_define_done h (takeDefine_inUse hq' (hf ha) ?_)
    rcases steerOf_cases hst with ⟨h0, -⟩ | ⟨x, hx, hxg⟩
    · rw [h0] at hg; simp at hg
    · have : x.group = g := Fin.ext (by omega)
      simp [hx, Device.groupBound, this, hb]
  · exact exec_define_done h (takeDefine_tableFull hq' (hf ha) (hfree hg) (freeSlot_eq_none hs))
  · have hn : q.steer = none := Option.some.inj (hst.symm.trans (steerOf_zero h0))
    rw [ends ha (by rw [hn]; rfl) e he hl, hw, hn]
    rfl
  · obtain ⟨x, hx, hxg, hxb⟩ := steerOf_of_steers hs (parkpol_le hp hs.group)
    have hn : q.steer = some x := Option.some.inj (hst.symm.trans hx)
    rw [ends ha (by simp [hn, Device.groupBound, hxg, hb]) e he hl, hw, hn]
    have hb' : (d₁.createRecord e (p.written (newRecord p.key .defined) (some g))).bindingOf e x = b := hxb
    rw [Device.bindNamed, Option.map_some, hxg, bindGroup_eq (r := p.written (newRecord p.key .defined) (some g))
      (by simp [Device.createRecord, Device.clearSlotNotices, Device.entry, Device.slot]) rfl, hb', hxg]
    simp only [createRecord_eq, Device.putRecord, tset_tset, tget_tset_same]
    rfl

/-! ### AMEND (R14 to R17) -/

section
variable {d : Device} {a : Agent} {p : Params} {q : RecordParams} {e : EntryIx} {r : Record} {v : Vector Channel 8}

/-- The refusals of AMEND, in the order of R14. -/
def amendRefusal (d : Device) (e : EntryIx) (r : Record) (q : RecordParams) : Option ResultCode :=
  if r.origin ≠ .defined && q.unboundedAllowed then some .badParam
  else if r.isRetiring then some .retiring
  else if r.occupancy ≠ .idle ∨ r.queue ≠ [] then some .entryBusy
  else if d.groupTaken e q.steer then some .inUse
  else none

/-- AMEND of an entry other than entry 0, with consistent parameters. -/
theorem takeAmend_eq (hl : d.lookup p.handle = .ok (e, r)) (he : e ≠ 0) (hq : recordParams p = some q) :
    takeAmend a p d = match amendRefusal d e r q with
      | some c => done d c
      | none => done ((d.modifyEntry e q.amend).amendGroup e r.group q.steer) .ok := by
  simp only [takeAmend, hl, if_neg he, hq, amendRefusal]
  split <;> (try rfl)
  split <;> (try rfl)
  split <;> (try rfl)
  split <;> rfl

theorem takeAmend_refused (hl : d.lookup p.handle = .ok (e, r)) (he : e ≠ 0) (hq : recordParams p = some q)
    {c : ResultCode} (hc : amendRefusal d e r q = some c) :
    takeAmend a p (d.withChannels v) = done (d.withChannels v) c := by
  rw [takeAmend_eq (d := d.withChannels v) hl he hq]
  have : amendRefusal (d.withChannels v) e r q = some c := hc
  rw [this]

theorem takeAmend_ok (hl : d.lookup p.handle = .ok (e, r)) (he : e ≠ 0) (hq : recordParams p = some q)
    (hc : amendRefusal d e r q = none) :
    takeAmend a p (d.withChannels v) =
      done (((d.modifyEntry e q.amend).amendGroup e r.group q.steer).withChannels v) .ok := by
  rw [takeAmend_eq (d := d.withChannels v) hl he hq]
  have : amendRefusal (d.withChannels v) e r q = none := hc
  rw [this]
  simp

theorem lookup_entry {h : Handle} (hl : d.lookup h = .ok (e, r)) : d.entry e = some r := by
  unfold Device.lookup at hl
  split at hl
  · split at hl
    · cases hl
    · dsimp only at hl
      split at hl
      · cases hl
      · next hr =>
        split at hl
        · cases hl; exact hr
        · cases hl
  · cases hl

theorem channels_unbindGroup (d : Device) (g : Option GroupIx) : (d.unbindGroup g).channels = d.channels := by
  rw [unbindGroup_eq]

theorem channels_amendGroup (d : Device) (e : EntryIx) (g : Option GroupIx) (q : Option SteerParams) :
    (d.amendGroup e g q).channels = d.channels := by
  cases q with
  | none => exact channels_unbindGroup ..
  | some q =>
    unfold Device.amendGroup
    dsimp only
    split
    · exact channels_returnHome ..
    · exact (channels_returnHome ..).trans (channels_unbindGroup ..)

theorem unbindGroup_putRecord (g : Option GroupIx) :
    (d.putRecord e r).unbindGroup g = (d.unbindGroup g).putRecord e r := by
  cases g <;> rfl

theorem entry_unbindGroup (g : Option GroupIx) : (d.unbindGroup g).entry e = d.entry e := by
  rw [unbindGroup_eq]; rfl

/-- A group other than the one unbound stays as it was. -/
theorem group_unbindGroup_ne {g : Option GroupIx} {x : GroupIx} (h : g ≠ some x) :
    (d.unbindGroup g).group x = d.group x := by
  cases g with
  | none => rfl
  | some y => exact (Device.group_setGroup ..).trans (if_neg fun hy => h (congrArg some hy))

theorem bindingOf_unbindGroup (g : Option GroupIx) (x : SteerParams) :
    (d.unbindGroup g).bindingOf e x = d.bindingOf e x := by
  cases g <;> rfl

end

/-- Settles O34: the refusals are those of `amendRefusal`, and the group is unbound, bound or bound again as
`bindGroup_eq` and `rebindGroup_eq` say. -/
theorem amendWritesTheRecord : Obligations.AmendWritesTheRecord := by
  intro s d d₁ ch w e r h p hl he hp ends plainUnbounded free left
  obtain ⟨q, hq, hst, hu, hw, -⟩ := recordParams_consistent hp
  have hq' := (recordParams_latch_amend p).trans hq
  have hl' : d₁.lookup (p.latch .amend).handle = .ok (e, r) := hl
  have hr := lookup_entry hl
  have hleft : d₁.unbindGroup r.group = left := by unfold left; cases r.group <;> rfl
  have refuse : ∀ c, amendRefusal d₁ e r q = some c → ends d₁ c := fun c hc =>
    exec_amend_done h rfl fun v => takeAmend_refused hl' he hq' hc
  have finish : ∀ d₂, amendRefusal d₁ e r q = none →
      (d₁.modifyEntry e q.amend).amendGroup e r.group q.steer = d₂ → ends d₂ .ok := fun d₂ hc h₂ =>
    exec_amend_done h (h₂ ▸ channels_amendGroup (d₁.modifyEntry e q.amend) ..)
      fun v => h₂ ▸ takeAmend_ok hl' he hq' hc
  have hplain : (decide (r.origin ≠ .defined) && q.unboundedAllowed) = true ↔ plainUnbounded := by
    simp [plainUnbounded, hu, p]
  have hlive : r.lifecycle = .live → ¬ r.isRetiring = true := fun hl => by rw [isRetiring_of_live hl]; simp
  have passes : ¬ plainUnbounded → free → d₁.groupTaken e q.steer = false → amendRefusal d₁ e r q = none := by
    rintro hn ⟨hlv, ho, hqe⟩ hg
    rw [amendRefusal, if_neg (mt hplain.mp hn), if_neg (hlive hlv), if_neg (by simp [ho, hqe]), hg]
    rfl
  refine ⟨fun hn => refuse _ (if_pos (hplain.mpr hn)), fun hn hlv => refuse _ ?_, fun hn hlv hb => refuse _ ?_,
    fun g b hn hf hg hb hbe => refuse _ ?_, fun hn hf h0 => ?_, fun g b hn hf hs hb => ?_⟩
  · rw [amendRefusal, if_neg (mt hplain.mp hn), if_pos (isRetiring_iff.mpr hlv)]
  · rw [amendRefusal, if_neg (mt hplain.mp hn), if_neg (hlive hlv), if_pos hb]
  · obtain ⟨hlv, ho, hqe⟩ := hf
    rw [amendRefusal, if_neg (mt hplain.mp hn), if_neg (hlive hlv), if_neg (by simp [ho, hqe]), if_pos]
    rcases steerOf_cases hst with ⟨h0, -⟩ | ⟨x, hx, hxg⟩
    · rw [h0] at hg; simp at hg
    · have : x.group = g := Fin.ext (by omega)
      simp [hx, Device.groupTaken, this, hb, hbe]
  · have hnone : q.steer = none := Option.some.inj (hst.symm.trans (steerOf_zero h0))
    refine finish _ (passes hn hf (by rw [hnone]; rfl)) ?_
    rw [hnone, modifyEntry_eq_putRecord hr, hw, hnone, ← hleft]
    exact unbindGroup_putRecord _
  · obtain ⟨x, hx, hxg, hxb⟩ := steerOf_of_steers hs (parkpol_le hp hs.group)
    have hsome : q.steer = some x := Option.some.inj (hst.symm.trans hx)
    have hfree : d₁.groupTaken e q.steer = false := by
      rw [hsome, Device.groupTaken, hxg]
      cases hbg : (d₁.group g).binding with
      | none => rfl
      | some b' => simpa using hb b' hbg
    have hmod : d₁.modifyEntry e q.amend = d₁.putRecord e (p.written r (some g)) := by
      rw [modifyEntry_eq_putRecord hr, hw, hsome, Option.map_some, hxg]
    have hentry : (d₁.putRecord e (p.written r (some g))).entry e = some (p.written r (some g)) := by
      rw [entry_putRecord, if_pos rfl]
    have hidle : (p.written r (some g)).occupancy = .idle := hf.2.1
    intro r'
    refine ⟨fun hg => finish _ (passes hn hf hfree) ?_, fun hg => finish _ (passes hn hf hfree) ?_⟩
    · rw [hmod, hsome, Device.amendGroup, if_pos (hg.trans (congrArg some hxg.symm)),
        rebindGroup_eq hentry hidle, putRecord_putRecord, hxg]
      have hb' : (d₁.putRecord e (p.written r (some g))).bindingOf e x = b := hxb
      rw [hb', group_putRecord]
    · have hg' : r.group ≠ some x.group := fun h' => hg (h'.trans (congrArg some hxg))
      have hb' : ((d₁.putRecord e (p.written r (some g))).unbindGroup r.group).bindingOf e x = b :=
        (bindingOf_unbindGroup ..).trans hxb
      rw [hmod, hsome, Device.amendGroup, if_neg hg',
        bindGroup_eq ((entry_unbindGroup _).trans hentry) hidle, hb', group_unbindGroup_ne hg', hxg,
        unbindGroup_putRecord, putRecord_putRecord, group_putRecord, hleft]

/-! ### AMEND of entry 0 (R16, R90) -/

/-- Settles O35, from `amendControl` and the codes of POLICY and GRACE. -/
theorem amendOfTheControlLease : Obligations.AmendOfTheControlLease := by
  intro s d d₁ ch w r h p hl
  have hr := lookup_entry hl
  have take : ∀ v, takeAmend ch (p.latch .amend) (d₁.withChannels v) = amendControl (p.latch .amend) (d₁.withChannels v) := by
    intro v
    have hl' : (d₁.withChannels v).lookup (p.latch .amend).handle = .ok (0, r) := hl
    simp only [takeAmend, hl', if_true]
  have hpol : ∀ v, policyOf p.policy p.grace = none ∨ policyOf p.policy p.grace = some .none →
      amendControl (p.latch .amend) (d₁.withChannels v) = done (d₁.withChannels v) .badParam := by
    intro v hy
    unfold amendControl
    change (match policyOf p.policy p.grace with | none | some .none => _ | some y => _) = _
    rcases hy with hy | hy <;> rw [hy]
  refine ⟨fun hb => exec_amend_done h rfl fun v => (take v).trans (hpol v ?_), fun y hy => ?_⟩
  · rcases hb with h0 | hb
    · rw [h0]; exact .inr rfl
    · exact .inl (policyOf_bad hb)
  · have hp : policyOf p.policy p.grace = some y ∧ y ≠ .none := by
      rcases hy with ⟨h1, rfl⟩ | ⟨h2, hg1, hg2, rfl⟩
      · rw [h1]; exact ⟨rfl, by simp⟩
      · have : ¬ (p.grace = 0 ∨ 4095 < p.grace.toNat) := by
          rintro (h0 | h0)
          · rw [h0] at hg1; simp at hg1
          · omega
        refine ⟨?_, by simp⟩
        rw [policyOf_good (by rw [h2]; rintro (h | ⟨-, h⟩); exacts [absurd h (by decide), this h]), h2]
        rfl
    refine exec_amend_done h (onlyEntry_evaluate _ 0).channels fun v => (take v).trans ?_
    unfold amendControl
    change (match policyOf p.policy p.grace with | none | some .none => _ | some y => _) = _
    rw [hp.1]
    obtain ⟨-, hn⟩ := hp
    have hm : (d₁.withChannels v).modifyEntry 0 (fun r =>
        { r with policy := y, holders := r.holders.map (Holder.afterAmend r.policy y) }) =
        (d₁.putRecord 0 { r with policy := y, holders := r.holders.map (Holder.afterAmend r.policy y) }).withChannels v := by
      rw [modifyEntry_withChannels, modifyEntry_eq_putRecord hr]
    have ends : ∀ f, (∀ x, Holder.afterAmend r.policy y x = f x) →
        done (((d₁.withChannels v).modifyEntry 0 fun r =>
          { r with policy := y, holders := r.holders.map (Holder.afterAmend r.policy y) }).evaluate 0) .ok =
        done (((d₁.putRecord 0 { r with policy := y, holders := r.holders.map f }).evaluate 0).withChannels v) .ok := by
      intro f hf
      rw [hm, evaluate_withChannels, funext hf]
    cases y with
    | none => exact absurd rfl hn
    | ask | force g =>
      refine ends _ fun x => ?_
      unfold Holder.afterAmend
      cases r.policy <;> rfl

end Sys2Proof.Machine
end

section
/-!
PROOFS. The cold reset and the loss of the retention supply (R20, R132, R172).
-/
namespace Sys2Proof.Machine

/-- Without the retention supply a step but a cold reset follows the levels on the pins and nothing else. -/
theorem exec_absent {s : State} (h : s.dev = none) {i : Instr} (hi : ∀ b, i ≠ .coldReset b) :
    ∃ p, exec i s = .next { s with pins := p } := by
  obtain ⟨pins, dev, pending⟩ := s
  obtain rfl : dev = none := h
  cases i with
  | attach | detach | rejoin | openEntry | query | request | release | renew | downgrade | cancel | check | takeNotice
  | retire | define | amend | forceRelease | fence | unfence | setAgent | configure | clearFault | warmReset
  | multipleTriggers | ack | abort | attnenWrite | viewpageWrite | registerWrite
  | termTick | termExpiry | waitLimitExpiry | graceExpiry | switchTimeout | windowExpiry
  | retentionSupplyLoss => exact ⟨pins, rfl⟩
  | agrstFall a =>
    simp only [exec, execAgrstFall, State.onLive]
    split <;> exact ⟨_, rfl⟩
  | agrstRise a =>
    simp only [exec, execAgrstRise, State.onLive]
    split <;> exact ⟨_, rfl⟩
  | settle g | stdoneRise g =>
    simp only [exec, execSettle, execStdoneRise, riseOf, State.onLive]
    split <;> exact ⟨_, rfl⟩
  | stdoneFall g =>
    simp only [exec, execStdoneFall, State.onLive]
    split <;> exact ⟨_, rfl⟩
  | warmResetBegin c =>
    simp only [exec, execWarmResetBegin, Option.map_none, ite_self]
    split <;> exact ⟨_, rfl⟩
  | warmResetRelease c =>
    cases c with
    | pin k =>
      simp only [exec, execWarmResetRelease, State.afterCause, Option.map_none, ite_self]
      split <;> exact ⟨_, rfl⟩
    | command => exact ⟨pins, rfl⟩
  | coldReset b => exact absurd rfl (hi b)

/-- Settles O55, from the values of `Device.cold`, table by table. -/
theorem coldResetAndSupplyLoss : Obligations.ColdResetAndSupplyLoss := by
  refine ⟨fun s b => ⟨.cold b.toFin s.pins, rfl, fun e => ?_, fun e he => ?_, ?_, fun e a => ?_, fun g => ?_, fun a => ?_,
    fun a => ?_, rfl, rfl, rfl, rfl, rfl, rfl, rfl, rfl, fun a => ?_⟩, fun s => rfl, fun s i h hi => exec_absent h hi⟩
  · simp only [Device.slot, Device.cold, tget_tabulate]
    split <;> rfl
  · simp [Device.entry, Device.slot, Device.cold, he, Slot.cold]
  · simp [Device.entry, Device.slot, Device.cold, Record.control]
  · simp [Device.notice, Device.cold]
  · simp [Device.group, Device.cold, GroupRec.cold]
  · have ha : a = b.toFin ↔ a.val = b.toNat := Fin.ext_iff
    simp [Device.agent, Device.cold, AgentRec.cold, ha]
  · simp only [Device.chan, Device.cold, tget_tabulate, Pins.holdsReset, Channel.inReset, Bool.or_eq_true, or_assoc]
    split <;> rfl
  · unfold Device.recordedState
    have ha : ((Device.cold b.toFin s.pins).agent a).state = .offline := by
      simp [Device.agent, Device.cold, AgentRec.cold]
    cases hr : (Device.cold b.toFin s.pins).recorded with
    | none => exact ha
    | some v =>
      have : v = Vector.replicate 8 .offline := by
        simp only [Device.cold] at hr
        split at hr
        · exact (Option.some.inj hr).symm
        · cases hr
      simp [this]

end Sys2Proof.Machine
end

section
/-!
PROOFS. Records by themselves: what an update of one record keeps of its queue order, of its agreement (R2, R4, R62,
R65), of the control lease (R5), and what it claims for each agent (R26, R60).
-/
namespace Sys2Proof.Machine

/-! ### Occupancy and holders -/

/-- The holders that go with an occupancy (R4). -/
def Occupancy.Fits (o : Occupancy) (hs : List Holder) : Prop :=
  match o with
  | .idle | .switching _ | .faulted => hs = []
  | .heldX => ∃ h, hs = [h] ∧ h.mode = .exclusive
  | .heldS => hs ≠ [] ∧ ∀ h ∈ hs, h.mode = .shared

/-- Neither SWITCHING nor FAULTED. -/
def Occupancy.Plain : Occupancy → Prop
  | .idle | .heldX | .heldS => True
  | .switching _ | .faulted => False

theorem Record.Agrees.fits {r : Record} (h : r.Agrees) : r.occupancy.Fits r.holders := h.occupancy

@[simp] theorem fits_idle {hs : List Holder} : Occupancy.idle.Fits hs ↔ hs = [] := Iff.rfl
@[simp] theorem fits_switching {t : SwitchTarget} {hs : List Holder} : (Occupancy.switching t).Fits hs ↔ hs = [] := Iff.rfl
@[simp] theorem fits_faulted {hs : List Holder} : Occupancy.faulted.Fits hs ↔ hs = [] := Iff.rfl
@[simp] theorem fits_heldX {hs : List Holder} : Occupancy.heldX.Fits hs ↔ ∃ h, hs = [h] ∧ h.mode = .exclusive := Iff.rfl
@[simp] theorem fits_heldS {hs : List Holder} : Occupancy.heldS.Fits hs ↔ hs ≠ [] ∧ ∀ h ∈ hs, h.mode = .shared := Iff.rfl

/-- Nobody, one EXCLUSIVE holder, or SHARED holders only. -/
def Coherent (hs : List Holder) : Prop :=
  hs = [] ∨ (∃ h, hs = [h] ∧ h.mode = .exclusive) ∨ ∀ h ∈ hs, h.mode = .shared

theorem coherent_of_fits {o : Occupancy} {hs : List Holder} (h : o.Fits hs) : Coherent hs := by
  cases o with
  | idle | switching | faulted => exact .inl h
  | heldX => exact .inr (.inl h)
  | heldS => exact .inr (.inr h.2)

theorem Coherent.filter {hs : List Holder} (h : Coherent hs) (p : Holder → Bool) : Coherent (hs.filter p) := by
  rcases h with rfl | ⟨h, rfl, hm⟩ | h
  · exact .inl rfl
  · cases hp : p h
    · exact .inl (by simp [hp])
    · exact .inr (.inl ⟨h, by simp [hp], hm⟩)
  · exact .inr (.inr fun x hx => h x (List.mem_of_mem_filter hx))

/-- The occupancy that a coherent holder list gives goes with it (R38). -/
theorem fits_occupancyOf {hs : List Holder} (h : Coherent hs) : (occupancyOf hs).Fits hs := by
  cases hs with
  | nil => rfl
  | cons x l =>
    rcases h with h | ⟨y, hy, hm⟩ | h
    · cases h
    · cases hy
      simp [occupancyOf, hm]
    · have hx := h x (by simp)
      simpa [occupancyOf, hx] using h

theorem plain_occupancyOf (hs : List Holder) : (occupancyOf hs).Plain := by
  cases hs with
  | nil => trivial
  | cons x l => simp only [occupancyOf]; split <;> trivial

theorem plain_of_holders {o : Occupancy} {hs : List Holder} (h : o.Fits hs) (hne : hs ≠ []) : o.Plain := by
  cases o with
  | idle | heldX | heldS => trivial
  | switching | faulted => exact absurd h hne

theorem plain_iff {r : Record} : r.occupancy.Plain ↔ r.isSwitching = false ∧ r.occupancy ≠ .faulted := by
  unfold Record.isSwitching
  cases r.occupancy <;> simp [Occupancy.Plain]

theorem plain_of_decidable {r : Record} (h : r.decidable = true) : r.occupancy.Plain := by
  rw [plain_iff]
  simp only [Record.decidable, Bool.and_eq_true, Bool.not_eq_true', bne_iff_ne] at h
  exact ⟨h.1.2, h.2⟩

theorem live_of_decidable {r : Record} (h : r.decidable = true) : r.lifecycle = .live := by
  by_contra hl
  simp [Record.decidable, isRetiring_iff.mpr hl] at h

/-! ### Who holds and who waits -/

theorem waitedBy_iff {r : Record} {a : Agent} : r.waitedBy a = true ↔ a ∈ r.queue.map (·.agent) := by
  simp [Record.waitedBy, Record.cell, List.find?_isSome]

theorem heldBy_eq_false {r : Record} {a : Agent} : r.heldBy a = false ↔ ∀ h ∈ r.holders, h.agent ≠ a := by
  simp [Record.heldBy, Record.holder, List.find?_eq_none]

theorem waitedBy_eq_false {r : Record} {a : Agent} : r.waitedBy a = false ↔ ∀ c ∈ r.queue, c.agent ≠ a := by
  simp [Record.waitedBy, Record.cell, List.find?_eq_none]

/-- What a record counts against the hold quota of an agent: its holder record and its cells that are no UPGRADE
(R26, R60, R134). -/
def Record.load (r : Record) (a : Agent) : Nat :=
  r.holders.countP (fun h => h.agent = a) + r.queue.countP (fun c => c.agent = a ∧ c.mode ≠ .upgrade)

/-- What a record counts against the wait quota of an agent (R60). -/
def Record.waits (r : Record) (a : Agent) : Nat := r.queue.countP fun c => c.agent = a

theorem waits_eq_zero {r : Record} {a : Agent} : r.waits a = 0 ↔ r.waitedBy a = false := by
  simp [Record.waits, waitedBy_eq_false, List.countP_eq_zero]

theorem load_eq_zero {r : Record} {a : Agent} (hw : r.waitedBy a = false) : r.load a = 0 ↔ r.heldBy a = false := by
  rw [waitedBy_eq_false] at hw
  have : r.queue.countP (fun c => c.agent = a ∧ c.mode ≠ .upgrade) = 0 := by
    rw [List.countP_eq_zero]
    intro c hc
    simp [hw c hc]
  rw [Record.load, this, heldBy_eq_false]
  simp [List.countP_eq_zero]

/-! ### The order of a queue (R61) -/

theorem behindUpgrade_cons (c : WaitCell) (q : List WaitCell) :
    behindUpgrade (c :: q) = if c.mode = .upgrade then q else c :: q := rfl

theorem behindUpgrade_sublist (q : List WaitCell) : (behindUpgrade q).Sublist q := by
  cases q with
  | nil => exact .slnil
  | cons c q =>
    simp only [behindUpgrade]
    split
    · exact List.sublist_cons_self ..
    · exact .refl _

/-- A queue that has no UPGRADE cell is all behind it. -/
theorem behindUpgrade_of_none {q : List WaitCell} (h : ∀ c ∈ q, c.mode ≠ .upgrade) : behindUpgrade q = q := by
  cases q with
  | nil => rfl
  | cons c q => exact if_neg (h c (by simp))

/-- A part of an ordered queue is ordered. -/
theorem QueueOrdered.sublist {q q' : List WaitCell} (h : QueueOrdered q) (hs : q'.Sublist q) : QueueOrdered q' := by
  have hb : (behindUpgrade q').Sublist (behindUpgrade q) := by
    cases hs with
    | slnil => exact .slnil
    | cons c hs =>
      have := (behindUpgrade_sublist q').trans hs
      rw [behindUpgrade_cons]
      split
      · exact this
      · exact this.trans (List.sublist_cons_self ..)
    | cons_cons c hs =>
      rw [behindUpgrade_cons, behindUpgrade_cons]
      split
      · exact hs
      · exact hs.cons_cons c
  exact ⟨fun c hc => h.upgradeFirst c (hb.subset hc), h.descending.sublist hb⟩

theorem behindUpgrade_map {f : WaitCell → WaitCell} (hm : ∀ c, (f c).mode = c.mode) (q : List WaitCell) :
    behindUpgrade (q.map f) = (behindUpgrade q).map f := by
  cases q with
  | nil => rfl
  | cons c q =>
    simp only [List.map_cons, behindUpgrade, hm]
    split <;> rfl

/-- The order of a queue is that of its modes and priorities. -/
theorem QueueOrdered.map {q : List WaitCell} (h : QueueOrdered q) {f : WaitCell → WaitCell}
    (hm : ∀ c, (f c).mode = c.mode) (hp : ∀ c, (f c).priority = c.priority) : QueueOrdered (q.map f) where
  upgradeFirst c hc := by
    rw [behindUpgrade_map hm] at hc
    obtain ⟨x, hx, rfl⟩ := List.mem_map.mp hc
    rw [hm]; exact h.upgradeFirst x hx
  descending := by
    rw [behindUpgrade_map hm, List.pairwise_map]
    simpa only [hp] using h.descending

theorem mem_insertCell {c x : WaitCell} {q : List WaitCell} : x ∈ insertCell c q ↔ x = c ∨ x ∈ q := by
  induction q with
  | nil => simp [insertCell]
  | cons y q ih =>
    simp only [insertCell]
    split
    · simp
    · split
      · simp only [List.mem_cons, ih]; tauto
      · simp

/-- A cell inserted joins the cells of the queue. -/
theorem insertCell_perm (c : WaitCell) (q : List WaitCell) : (insertCell c q).Perm (c :: q) := by
  induction q with
  | nil => exact .refl _
  | cons y q ih =>
    simp only [insertCell]
    split
    · exact .refl _
    · split
      · exact (ih.cons y).trans (.swap ..)
      · exact .refl _

/-- A cell that is no UPGRADE keeps the priorities descending where it is inserted among others of that kind (R61). -/
theorem insertCell_pairwise {c : WaitCell} (hc : c.mode ≠ .upgrade) {q : List WaitCell}
    (hq : ∀ x ∈ q, x.mode ≠ .upgrade) (h : q.Pairwise fun a b => b.priority ≤ a.priority) :
    (insertCell c q).Pairwise fun a b => b.priority ≤ a.priority := by
  induction q with
  | nil => simp [insertCell]
  | cons y q ih =>
    have hy := hq y (by simp)
    obtain ⟨hhead, htail⟩ := List.pairwise_cons.mp h
    simp only [insertCell, if_neg hc]
    split
    · next hle =>
      have hle := hle.resolve_left hy
      refine List.pairwise_cons.mpr ⟨fun x hx => ?_, ih (fun x hx => hq x (by simp [hx])) htail⟩
      rcases mem_insertCell.mp hx with rfl | hx
      · exact hle
      · exact hhead x hx
    · next hlt =>
      have hlt : y.priority < c.priority := not_le.mp fun h => hlt (.inr h)
      refine List.pairwise_cons.mpr ⟨fun x hx => ?_, h⟩
      rcases List.mem_cons.mp hx with rfl | hx
      · exact hlt.le
      · exact (hhead x hx).trans hlt.le

/-- The place that R61 gives a cell keeps a queue ordered; an UPGRADE cell comes to a queue that has none (R28). -/
theorem QueueOrdered.insert {q : List WaitCell} (h : QueueOrdered q) {c : WaitCell}
    (hu : c.mode = .upgrade → ∀ x ∈ q, x.mode ≠ .upgrade) : QueueOrdered (insertCell c q) := by
  by_cases hc : c.mode = .upgrade
  · have hn := behindUpgrade_of_none (hu hc)
    have hb : behindUpgrade (insertCell c q) = q := by
      cases q <;> simp [insertCell, behindUpgrade, hc]
    exact ⟨fun x hx => hu hc x (hb ▸ hx), by rw [hb, ← hn]; exact h.descending⟩
  · cases q with
    | nil => exact ⟨by simp [insertCell, behindUpgrade, hc], by simp [insertCell, behindUpgrade, hc]⟩
    | cons y q =>
      by_cases hy : y.mode = .upgrade
      · have hb : behindUpgrade (y :: q) = q := by simp [behindUpgrade, hy]
        have hb' : behindUpgrade (insertCell c (y :: q)) = insertCell c q := by
          simp [insertCell, behindUpgrade, hc, hy]
        have hq : ∀ x ∈ q, x.mode ≠ .upgrade := hb ▸ h.upgradeFirst
        refine ⟨fun x hx => ?_, by rw [hb']; exact insertCell_pairwise hc hq (hb ▸ h.descending)⟩
        rcases mem_insertCell.mp (hb' ▸ hx) with rfl | hx
        · exact hc
        · exact hq x hx
      · have hb : behindUpgrade (y :: q) = y :: q := if_neg hy
        have hq : ∀ x ∈ y :: q, x.mode ≠ .upgrade := hb ▸ h.upgradeFirst
        have hn : ∀ x ∈ insertCell c (y :: q), x.mode ≠ .upgrade := fun x hx => by
          rcases mem_insertCell.mp hx with rfl | hx
          · exact hc
          · exact hq x hx
        have hb' := behindUpgrade_of_none hn
        exact ⟨fun x hx => hn x (hb' ▸ hx), by rw [hb']; exact insertCell_pairwise hc hq (hb ▸ h.descending)⟩

end Sys2Proof.Machine
end

section
/-!
PROOFS. The updates of one record, each with what it keeps: the agreement of the record, the control lease, and the
claims counted for each agent.
-/
namespace Sys2Proof.Machine

/-! ### Agreement under each update -/

section
variable {r r' : Record} {a : Agent}

/-- Agreement looks at holders, queue, sharing class, group and occupancy alone. -/
theorem Record.Agrees.congr (h : r.Agrees) (hh : r'.holders = r.holders) (hq : r'.queue = r.queue)
    (hs : r'.sharing = r.sharing) (hg : r'.group = r.group) (ho : r'.occupancy = r.occupancy) : r'.Agrees := by
  obtain ⟨k, o, sh, p, dt, mt, u, g, l, oc, hs', q⟩ := r
  obtain ⟨k', o', sh', p', dt', mt', u', g', l', oc', hs'', q'⟩ := r'
  dsimp only at hh hq hs hg ho
  subst hh hq hs hg ho
  exact ⟨h.1, h.2, h.3, h.4, h.5, h.6, h.7⟩

/-- A part of the queue taken away. -/
theorem Record.Agrees.subqueue (h : r.Agrees) {q : List WaitCell} (hs : q.Sublist r.queue) :
    ({ r with queue := q } : Record).Agrees where
  holdersOnce := h.holdersOnce
  queueOnce := h.queueOnce.sublist (hs.map _)
  claims c hc := h.claims c (hs.subset hc)
  targets c hc := h.targets c (hs.subset hc)
  exclusive hx := ⟨(h.exclusive hx).1, fun c hc => (h.exclusive hx).2 c (hs.subset hc)⟩
  steered := h.steered
  occupancy := h.occupancy

theorem Record.Agrees.withoutCell (h : r.Agrees) (a : Agent) : (r.withoutCell a).Agrees :=
  h.subqueue List.filter_sublist

/-- The end of a grant on an entry that is neither SWITCHING nor FAULTED. -/
theorem Record.Agrees.withoutGrant (h : r.Agrees) (a : Agent) : (r.withoutGrant a).Agrees where
  holdersOnce := h.holdersOnce.sublist (List.filter_sublist.map _)
  queueOnce := h.queueOnce.sublist (List.filter_sublist.map _)
  claims c hc := by
    obtain ⟨hc, hn⟩ := List.mem_filter.mp hc
    have hn : ¬ (c.agent = a ∧ c.mode = .upgrade) := of_decide_eq_true hn
    have := h.claims c hc
    rw [heldBy_iff] at this ⊢
    simp only [Record.withoutGrant, List.mem_map, List.mem_filter] at this ⊢
    constructor
    · rintro ⟨x, ⟨hx, -⟩, he⟩
      exact this.mp ⟨x, hx, he⟩
    · intro hu
      obtain ⟨x, hx, he⟩ := this.mpr hu
      exact ⟨x, ⟨hx, by simpa [he] using fun hca => hn ⟨hca, hu⟩⟩, he⟩
  targets c hc := h.targets c (List.mem_of_mem_filter hc)
  exclusive hx := ⟨fun y hy => (h.exclusive hx).1 y (List.mem_of_mem_filter hy),
    fun c hc => (h.exclusive hx).2 c (List.mem_of_mem_filter hc)⟩
  steered := h.steered
  occupancy := fits_occupancyOf ((coherent_of_fits h.fits).filter _)

/-- Holders and cells changed one by one, with agents and modes kept. -/
theorem Record.Agrees.map (h : r.Agrees) {f : Holder → Holder} {k : WaitCell → WaitCell}
    (hfa : ∀ x, (f x).agent = x.agent) (hfm : ∀ x, (f x).mode = x.mode)
    (hka : ∀ c, (k c).agent = c.agent) (hkm : ∀ c, (k c).mode = c.mode)
    (hkt : ∀ c ∈ r.queue, (k c).target = true → c.target = true ∨ c.mode = .exclusive) :
    ({ r with holders := r.holders.map f, queue := r.queue.map k } : Record).Agrees where
  holdersOnce := by simpa [Function.comp_def, hfa] using h.holdersOnce
  queueOnce := by simpa [Function.comp_def, hka] using h.queueOnce
  claims c hc := by
    obtain ⟨x, hx, rfl⟩ := List.mem_map.mp hc
    rw [hkm, hka, ← h.claims x hx, heldBy_iff, heldBy_iff]
    simp [Function.comp_def, hfa]
  targets c hc ht := by
    obtain ⟨x, hx, rfl⟩ := List.mem_map.mp hc
    rw [hkm]
    rcases hkt x hx ht with h' | h'
    · exact h.targets x hx h'
    · exact h'
  exclusive hx := by
    refine ⟨fun y hy => ?_, fun c hc => ?_⟩
    · obtain ⟨x, hx', rfl⟩ := List.mem_map.mp hy
      rw [hfm]; exact (h.exclusive hx).1 x hx'
    · obtain ⟨x, hx', rfl⟩ := List.mem_map.mp hc
      rw [hkm]; exact (h.exclusive hx).2 x hx'
  steered := h.steered
  occupancy := by
    have := h.fits
    cases ho : r.occupancy with
    | idle | switching | faulted => rw [ho] at this; exact congrArg (List.map f) this
    | heldX =>
      rw [ho] at this
      obtain ⟨x, hx, hm⟩ := this
      exact ⟨f x, by simp [hx], (hfm x).trans hm⟩
    | heldS =>
      rw [ho] at this
      refine ⟨by simpa using this.1, fun y hy => ?_⟩
      obtain ⟨x, hx, rfl⟩ := List.mem_map.mp hy
      exact (hfm x).trans (this.2 x hx)

/-- The record with one more holder, and the occupancy that gives (R22, R38). -/
def Record.withHolder (r : Record) (h : Holder) : Record :=
  { r with holders := r.holders ++ [h], occupancy := occupancyOf (r.holders ++ [h]) }

theorem Record.Agrees.withHolder (hr : r.Agrees) {h : Holder} (hh : r.heldBy h.agent = false)
    (hw : r.waitedBy h.agent = false) (hx : h.mode = .exclusive → r.holders = [])
    (hs : h.mode = .shared → (∀ x ∈ r.holders, x.mode = .shared) ∧ r.sharing = .sharedAllowed) :
    (r.withHolder h).Agrees where
  holdersOnce := by
    rw [heldBy_eq_false] at hh
    simp only [Record.withHolder, List.map_append, List.map_cons, List.map_nil]
    refine List.Nodup.append hr.holdersOnce (by simp) ?_
    simpa [List.disjoint_singleton] using hh
  queueOnce := hr.queueOnce
  claims c hc := by
    have hne := waitedBy_eq_false.mp hw c hc
    rw [← hr.claims c hc, heldBy_iff, heldBy_iff]
    simp [Record.withHolder, hne]
  targets := hr.targets
  exclusive he := by
    refine ⟨fun x hx' => ?_, (hr.exclusive he).2⟩
    rcases List.mem_append.mp hx' with hx' | hx'
    · exact (hr.exclusive he).1 x hx'
    · rw [List.mem_singleton] at hx'
      subst hx'
      cases hm : x.mode with
      | exclusive => rfl
      | shared => rw [show r.sharing = .exclusiveOnly from he] at hs; cases (hs hm).2
  steered := hr.steered
  occupancy := by
    refine fits_occupancyOf ?_
    cases hm : h.mode with
    | exclusive => exact .inr (.inl ⟨h, by simp [hx hm], hm⟩)
    | shared =>
      refine .inr (.inr fun x hx' => ?_)
      rcases List.mem_append.mp hx' with hx' | hx'
      · exact (hs hm).1 x hx'
      · rw [List.mem_singleton.mp hx', hm]

/-- The record with the holder record of `a` made EXCLUSIVE by the grant `g` (R34, R71). -/
def Record.converted (r : Record) (a : Agent) (t : Ticket) (p : Priority) (m : Term) : Record :=
  { r with
    holders := r.holders.map fun h =>
      if h.agent = a then
        { h with mode := .exclusive, ticket := t, priority := p, remaining := m, asked := false, grace := none }
      else h
    occupancy := .heldX }

theorem holders_converted_agent (r : Record) (a : Agent) (t : Ticket) (p : Priority) (m : Term) :
    (r.converted a t p m).holders.map (·.agent) = r.holders.map (·.agent) := by
  rw [Record.converted, List.map_map]
  refine List.map_congr_left fun h _ => ?_
  simp only [Function.comp_apply]
  split <;> rfl

theorem mode_converted {r : Record} {a : Agent} {t : Ticket} {p : Priority} {m : Term}
    (ha : r.holders.map (·.agent) = [a]) : ∀ h ∈ (r.converted a t p m).holders, h.mode = .exclusive := by
  intro h hh
  obtain ⟨x, hx, rfl⟩ := List.mem_map.mp hh
  have : x.agent = a := by simpa [ha] using List.mem_map_of_mem (f := fun y : Holder => y.agent) hx
  simp [this]

theorem Record.Agrees.converted (hr : r.Agrees) (ha : r.holders.map (·.agent) = [a]) (t : Ticket) (p : Priority)
    (m : Term) : (r.converted a t p m).Agrees where
  holdersOnce := by rw [holders_converted_agent]; exact hr.holdersOnce
  queueOnce := hr.queueOnce
  claims c hc := by rw [← hr.claims c hc, heldBy_iff, heldBy_iff, holders_converted_agent]
  targets := hr.targets
  exclusive he := ⟨mode_converted ha, (hr.exclusive he).2⟩
  steered := hr.steered
  occupancy := by
    obtain ⟨x, hx, -⟩ := List.map_eq_singleton_iff.mp ha
    have hone : ∃ y, (r.converted a t p m).holders = [y] := ⟨_, congrArg (List.map _) hx⟩
    obtain ⟨y, hy⟩ := hone
    have hf : Occupancy.heldX.Fits (r.converted a t p m).holders := 
      ⟨y, hy, mode_converted (t := t) (p := p) (m := m) ha y (by rw [hy]; exact List.mem_singleton_self y)⟩
    exact hf

theorem Record.Agrees.enqueue (hr : r.Agrees) {c : WaitCell} (hw : r.waitedBy c.agent = false)
    (hc : r.heldBy c.agent = true ↔ c.mode = .upgrade) (ht : c.target = true → c.mode = .exclusive)
    (hx : r.sharing = .exclusiveOnly → c.mode = .exclusive) :
    ({ r with queue := insertCell c r.queue } : Record).Agrees where
  holdersOnce := hr.holdersOnce
  queueOnce := by
    have hp := (insertCell_perm c r.queue).map fun x => x.agent
    rw [hp.nodup_iff, List.map_cons, List.nodup_cons]
    refine ⟨fun hm => ?_, hr.queueOnce⟩
    rw [waitedBy_iff.mpr hm] at hw
    cases hw
  claims x hx' := by
    rcases mem_insertCell.mp hx' with rfl | hx'
    · exact hc
    · exact hr.claims x hx'
  targets x hx' := by
    rcases mem_insertCell.mp hx' with rfl | hx'
    · exact ht
    · exact hr.targets x hx'
  exclusive he := by
    refine ⟨(hr.exclusive he).1, fun x hx' => ?_⟩
    rcases mem_insertCell.mp hx' with rfl | hx'
    · exact hx he
    · exact (hr.exclusive he).2 x hx'
  steered := hr.steered
  occupancy := hr.occupancy

/-- The occupancy of an entry that nobody holds moves among those without holders. -/
theorem Record.Agrees.vacant (hr : r.Agrees) (hh : r.holders = []) {o : Occupancy} (ho : o.Fits []) :
    ({ r with occupancy := o } : Record).Agrees where
  holdersOnce := hr.holdersOnce
  queueOnce := hr.queueOnce
  claims := hr.claims
  targets := hr.targets
  exclusive := hr.exclusive
  steered := hr.steered
  occupancy := by
    have : o.Fits r.holders := hh ▸ ho
    exact this

/-- An EXCLUSIVE grant downgraded to SHARED (R40). -/
def Record.downgraded (r : Record) (a : Agent) : Record :=
  { r with
    holders := r.holders.map fun h => if h.agent = a then { h with mode := .shared } else h
    occupancy := .heldS }

theorem holders_downgraded_agent (r : Record) (a : Agent) :
    (r.downgraded a).holders.map (·.agent) = r.holders.map (·.agent) := by
  rw [Record.downgraded, List.map_map]
  refine List.map_congr_left fun h _ => ?_
  simp only [Function.comp_apply]
  split <;> rfl

/-- The EXCLUSIVE holder of an entry is its only holder (R4). -/
theorem Record.Agrees.alone (hr : r.Agrees) {h : Holder} (hh : h ∈ r.holders) (hm : h.mode = .exclusive) :
    r.holders = [h] := by
  rcases coherent_of_fits hr.fits with h0 | ⟨x, hx, -⟩ | hs
  · rw [h0] at hh; cases hh
  · rw [hx] at hh ⊢
    rw [List.mem_singleton.mp hh]
  · rw [hs h hh] at hm; cases hm

theorem Record.Agrees.downgraded (hr : r.Agrees) {h : Holder} (hh : r.holder a = some h) (hm : h.mode = .exclusive)
    (hs : r.sharing = .sharedAllowed) : (r.downgraded a).Agrees := by
  have hal := hr.alone (List.mem_of_find?_eq_some hh) hm
  have hmode : ∀ x ∈ (r.downgraded a).holders, x.mode = .shared := by
    intro x hx
    simp only [Record.downgraded, hal, List.map_cons, List.map_nil, agent_of_holder hh, if_true, List.mem_singleton] at hx
    rw [hx]
  exact
    { holdersOnce := by rw [holders_downgraded_agent]; exact hr.holdersOnce
      queueOnce := hr.queueOnce
      claims := fun c hc => by rw [← hr.claims c hc, heldBy_iff, heldBy_iff, holders_downgraded_agent]
      targets := hr.targets
      exclusive := fun he => by rw [show r.sharing = .exclusiveOnly from he] at hs; cases hs
      steered := hr.steered
      occupancy := ⟨by simp [Record.downgraded, hal], hmode⟩ }

/-- A record at the beginning of a warm reset. -/
theorem Record.Agrees.warm (hr : r.Agrees) : r.warm.Agrees where
  holdersOnce := by simpa [Record.warm, Function.comp_def] using hr.holdersOnce
  queueOnce := by simp [Record.warm]
  claims c hc := by cases hc
  targets c hc := by cases hc
  exclusive hx := by
    refine ⟨fun y hy => ?_, fun c hc => by cases hc⟩
    obtain ⟨x, hx', rfl⟩ := List.mem_map.mp hy
    exact (hr.exclusive hx).1 x hx'
  steered := hr.steered
  occupancy := by
    have := (hr.map (f := fun h => { h with asked := false, grace := none }) (k := id) (fun _ => rfl) (fun _ => rfl)
      (fun _ => rfl) (fun _ => rfl) fun c _ ht => .inl ht).fits
    cases ho : r.occupancy <;> simp only [Record.warm, ho] at this ⊢ <;> exact this

/-- A new record with nobody holding or waiting. -/
theorem agrees_of_empty (hh : r.holders = []) (hq : r.queue = []) (ho : r.occupancy.Fits [])
    (hs : r.group ≠ none → r.sharing = .exclusiveOnly) : r.Agrees where
  holdersOnce := by simp [hh]
  queueOnce := by simp [hq]
  claims := by simp [hq]
  targets := by simp [hq]
  exclusive := by simp [hh, hq]
  steered := hs
  occupancy := by
    have : r.occupancy.Fits r.holders := hh ▸ ho
    exact this

end

/-! ### The control lease (R5) -/

section
variable {r : Record} {a : Agent}

/-- Holders, queue and occupancy of the control lease move among EXCLUSIVE ones. -/
theorem Record.IsControlLease.update (h : r.IsControlLease) {hs : List Holder} {q : List WaitCell} {o : Occupancy}
    (hh : ∀ x ∈ hs, x.mode = .exclusive) (hq : ∀ c ∈ q, c.mode = .exclusive) (ho : o = .idle ∨ o = .heldX) :
    ({ r with holders := hs, queue := q, occupancy := o } : Record).IsControlLease where
  key := h.key
  origin := h.origin
  sharing := h.sharing
  policy := h.policy
  defaultTerm := h.defaultTerm
  maxTerm := h.maxTerm
  unboundedAllowed := h.unboundedAllowed
  group := h.group
  lifecycle := h.lifecycle
  occupancy := ho
  holders := hh
  queue := hq

theorem occupancyOf_exclusive {hs : List Holder} (h : ∀ x ∈ hs, x.mode = .exclusive) :
    occupancyOf hs = .idle ∨ occupancyOf hs = .heldX := by
  cases hs with
  | nil => exact .inl rfl
  | cons x l => exact .inr (if_pos (h x (by simp)))

theorem Record.IsControlLease.subqueue (h : r.IsControlLease) {q : List WaitCell} (hs : ∀ c ∈ q, c ∈ r.queue) :
    ({ r with queue := q } : Record).IsControlLease :=
  h.update h.holders (fun c hc => h.queue c (hs c hc)) h.occupancy

theorem Record.IsControlLease.withoutCell (h : r.IsControlLease) (a : Agent) : (r.withoutCell a).IsControlLease :=
  h.subqueue fun _ hc => List.mem_of_mem_filter hc

theorem Record.IsControlLease.withoutGrant (h : r.IsControlLease) (a : Agent) : (r.withoutGrant a).IsControlLease :=
  have hh : ∀ x ∈ r.holders.filter (fun y => y.agent ≠ a), x.mode = .exclusive := fun x hx =>
    h.holders x (List.mem_of_mem_filter hx)
  h.update hh (fun c hc => h.queue c (List.mem_of_mem_filter hc)) (occupancyOf_exclusive hh)

theorem Record.IsControlLease.map (h : r.IsControlLease) {f : Holder → Holder} {k : WaitCell → WaitCell}
    (hfm : ∀ x, (f x).mode = x.mode) (hkm : ∀ c, (k c).mode = c.mode) :
    ({ r with holders := r.holders.map f, queue := r.queue.map k } : Record).IsControlLease := by
  refine h.update (fun x hx => ?_) (fun c hc => ?_) h.occupancy
  · obtain ⟨y, hy, rfl⟩ := List.mem_map.mp hx
    exact (hfm y).trans (h.holders y hy)
  · obtain ⟨y, hy, rfl⟩ := List.mem_map.mp hc
    exact (hkm y).trans (h.queue y hy)

theorem Record.IsControlLease.withHolder (h : r.IsControlLease) {x : Holder} (hx : x.mode = .exclusive) :
    (r.withHolder x).IsControlLease := by
  have hh : ∀ y ∈ r.holders ++ [x], y.mode = .exclusive := fun y hy => by
    rcases List.mem_append.mp hy with hy | hy
    · exact h.holders y hy
    · rw [List.mem_singleton.mp hy, hx]
  exact h.update hh h.queue (occupancyOf_exclusive hh)

theorem Record.IsControlLease.converted (h : r.IsControlLease) (t : Ticket) (p : Priority) (m : Term) :
    (r.converted a t p m).IsControlLease := by
  refine h.update (fun x hx => ?_) h.queue (.inr rfl)
  obtain ⟨y, hy, rfl⟩ := List.mem_map.mp hx
  split
  · rfl
  · exact h.holders y hy

theorem Record.IsControlLease.enqueue (h : r.IsControlLease) {c : WaitCell} (hc : c.mode = .exclusive) :
    ({ r with queue := insertCell c r.queue } : Record).IsControlLease := by
  refine h.update h.holders (fun x hx => ?_) h.occupancy
  rcases mem_insertCell.mp hx with rfl | hx
  · exact hc
  · exact h.queue x hx

theorem Record.IsControlLease.warm (h : r.IsControlLease) : r.warm.IsControlLease := by
  refine h.update (fun x hx => ?_) (fun c hc => by cases hc) ?_
  · obtain ⟨y, hy, rfl⟩ := List.mem_map.mp hx
    exact h.holders y hy
  · rcases h.occupancy with ho | ho <;> rw [ho] <;> simp

theorem Record.IsControlLease.plain (h : r.IsControlLease) : r.occupancy.Plain := by
  rcases h.occupancy with ho | ho <;> rw [ho] <;> trivial

end

/-! ### What a record claims for an agent -/

section
variable {r : Record} {a b : Agent}

theorem waits_subqueue {q : List WaitCell} (h : q.Sublist r.queue) :
    ({ r with queue := q } : Record).waits b ≤ r.waits b := h.countP_le

theorem load_subqueue {q : List WaitCell} (h : q.Sublist r.queue) :
    ({ r with queue := q } : Record).load b ≤ r.load b := Nat.add_le_add_left h.countP_le _

theorem waits_withoutCell : (r.withoutCell a).waits b ≤ r.waits b := waits_subqueue List.filter_sublist
theorem load_withoutCell : (r.withoutCell a).load b ≤ r.load b := load_subqueue List.filter_sublist

theorem waits_withoutGrant : (r.withoutGrant a).waits b ≤ r.waits b :=
  (List.filter_sublist (l := r.queue)).countP_le

theorem load_withoutGrant : (r.withoutGrant a).load b ≤ r.load b :=
  Nat.add_le_add (List.filter_sublist (l := r.holders)).countP_le (List.filter_sublist (l := r.queue)).countP_le

theorem waits_map {f : Holder → Holder} {k : WaitCell → WaitCell} (hka : ∀ c, (k c).agent = c.agent) :
    ({ r with holders := r.holders.map f, queue := r.queue.map k } : Record).waits b = r.waits b := by
  simp [Record.waits, List.countP_map, Function.comp_def, hka]

theorem load_map {f : Holder → Holder} {k : WaitCell → WaitCell} (hfa : ∀ x, (f x).agent = x.agent)
    (hka : ∀ c, (k c).agent = c.agent) (hkm : ∀ c, (k c).mode = c.mode) :
    ({ r with holders := r.holders.map f, queue := r.queue.map k } : Record).load b = r.load b := by
  simp [Record.load, List.countP_map, Function.comp_def, hka, hkm, hfa]

theorem waits_withHolder {h : Holder} : (r.withHolder h).waits b = r.waits b := rfl

theorem load_withHolder {h : Holder} : (r.withHolder h).load b = r.load b + if h.agent = b then 1 else 0 := by
  simp only [Record.load, Record.withHolder, List.countP_append, List.countP_singleton, decide_eq_true_eq]
  omega

/-- A cell granted claims no more than it did while it waited (R76). -/
theorem load_granted {c : WaitCell} (hc : c ∈ r.queue) (hm : c.mode ≠ .upgrade) {h : Holder} (hh : h.agent = c.agent) :
    ((r.withoutCell c.agent).withHolder h).load b ≤ r.load b := by
  rw [load_withHolder, hh]
  split
  · next hb =>
    subst hb
    have h0 : (r.withoutCell c.agent).queue.countP (fun x => x.agent = c.agent ∧ x.mode ≠ .upgrade) = 0 := by
      rw [List.countP_eq_zero]
      intro x hx
      have : x.agent ≠ c.agent := by simpa using (List.mem_filter.mp hx).2
      simp [this]
    have h1 : 0 < r.queue.countP (fun x => x.agent = c.agent ∧ x.mode ≠ .upgrade) :=
      List.countP_pos_iff.mpr ⟨c, hc, by simp [hm]⟩
    simp only [Record.load, h0]
    exact Nat.add_le_add_left h1 _
  · exact load_withoutCell

theorem countP_holder_agent {hs hs' : List Holder} (h : hs'.map (·.agent) = hs.map (·.agent)) :
    hs'.countP (fun x => x.agent = b) = hs.countP (fun x => x.agent = b) := by
  have := congrArg (List.countP fun x => decide (x = b)) h
  simpa [List.countP_map, Function.comp_def] using this

theorem load_converted (t : Ticket) (p : Priority) (m : Term) : (r.converted a t p m).load b = r.load b := by
  rw [Record.load, countP_holder_agent (holders_converted_agent r a t p m)]
  rfl

theorem load_downgraded : (r.downgraded a).load b = r.load b := by
  rw [Record.load, countP_holder_agent (holders_downgraded_agent r a)]
  rfl

theorem waits_enqueue {c : WaitCell} :
    ({ r with queue := insertCell c r.queue } : Record).waits b = r.waits b + if c.agent = b then 1 else 0 := by
  simp [Record.waits, (insertCell_perm c r.queue).countP_eq, List.countP_cons]

theorem load_enqueue {c : WaitCell} :
    ({ r with queue := insertCell c r.queue } : Record).load b =
      r.load b + if c.agent = b ∧ c.mode ≠ .upgrade then 1 else 0 := by
  simp only [Record.load, (insertCell_perm c r.queue).countP_eq, List.countP_cons, decide_eq_true_eq]
  omega

end

end Sys2Proof.Machine
end

section
/-!
PROOFS. What operations keep by themselves: names (R6, R7, R24, R167), the pool and the order of the queues (R58, R61),
and the control lease (R5). `Keeps` says it of an operation, and operations that keep them compose.
-/
namespace Sys2Proof.Machine

/-- The operation from `d` to `d'` keeps the names sound, the pool bounded and the queues ordered. -/
structure KeepsNames (d d' : Device) : Prop where
  names : d.NamesSound → d'.NamesSound
  pool : d.PoolBounded → d'.PoolBounded
  queues : d.QueuesOrdered → d'.QueuesOrdered

namespace KeepsNames

theorem refl (d : Device) : KeepsNames d d := ⟨id, id, id⟩

theorem trans {d d' d'' : Device} (h : KeepsNames d d') (h' : KeepsNames d' d'') : KeepsNames d d'' :=
  ⟨h'.names ∘ h.names, h'.pool ∘ h.pool, h'.queues ∘ h.queues⟩

theorem foldl {α : Type} (f : Device → α → Device) (hf : ∀ d x, KeepsNames d (f d x)) (l : List α) (d : Device) :
    KeepsNames d (l.foldl f d) := by
  induction l generalizing d with
  | nil => exact refl d
  | cons x l ih => exact (hf d x).trans (ih _)

end KeepsNames

/-- The operation from `d` to `d'` keeps these, and the control lease. -/
structure Keeps (d d' : Device) : Prop extends KeepsNames d d' where
  control : d.ControlLeaseKept → d'.ControlLeaseKept

namespace Keeps

theorem refl (d : Device) : Keeps d d := ⟨.refl d, id⟩

theorem trans {d d' d'' : Device} (h : Keeps d d') (h' : Keeps d' d'') : Keeps d d'' :=
  ⟨h.toKeepsNames.trans h'.toKeepsNames, h'.control ∘ h.control⟩

theorem foldl {α : Type} (f : Device → α → Device) (hf : ∀ d x, Keeps d (f d x)) (l : List α) (d : Device) :
    Keeps d (l.foldl f d) := by
  induction l generalizing d with
  | nil => exact refl d
  | cons x l ih => exact (hf d x).trans (ih _)

end Keeps

/-! ### Operations that leave the records as they are -/

/-- A notice cell holds a generation exactly while it has a pending kind (R167). -/
def NoticeCell.Stamped (c : NoticeCell) : Prop := c.generation.isSome = true ↔ c.kinds ≠ {}

theorem entry_of_slots {d d' : Device} (h : d'.slots = d.slots) (e : EntryIx) : d'.entry e = d.entry e := by
  unfold Device.entry Device.slot; rw [h]

theorem sumEntries_of_slots {d d' : Device} (h : d'.slots = d.slots) (f : Record → Nat) :
    d'.sumEntries f = d.sumEntries f := by
  unfold Device.sumEntries
  simp only [entry_of_slots h]

/-- Records, groups and the ticket counter stay; the notices may change, stamped as they were. -/
theorem keeps_of_notices {d d' : Device} (hs : d'.slots = d.slots) (hg : d'.groups = d.groups)
    (ht : d'.ticket = d.ticket) (hn : ∀ e a, (d.notice e a).Stamped → (d'.notice e a).Stamped) : Keeps d d' where
  names h :=
    { tickets := ⟨by rw [ht]; exact h.tickets.counter, fun e r hr => h.tickets.issued e r (by rw [← entry_of_slots hs, hr])⟩
      generations := fun e => by unfold Device.slot; rw [hs]; exact h.generations e
      keys := fun e e' r r' hr hr' => h.keys e e' r r' (by rw [← entry_of_slots hs, hr]) (by rw [← entry_of_slots hs, hr'])
      notices := fun e a => hn e a (h.notices e a) }
  pool h := by
    unfold Device.PoolBounded Device.cellsInUse
    rw [sumEntries_of_slots hs]; exact h
  queues h e r hr := h e r (by rw [← entry_of_slots hs, hr])
  control h :=
    { entry := by rw [entry_of_slots hs]; exact h.entry
      generation := by unfold Device.slot; rw [hs]; exact h.generation
      unsteered := fun g b => by unfold Device.group; rw [hg]; exact h.unsteered g b }

/-- Channels, roster, configuration and timers do not bear on what `Keeps` speaks of. -/
theorem keeps_of_board {d d' : Device} (hs : d'.slots = d.slots) (hg : d'.groups = d.groups)
    (ht : d'.ticket = d.ticket) (hn : d'.notices = d.notices) : Keeps d d' :=
  keeps_of_notices hs hg ht fun e a h => by unfold Device.notice; rw [hn]; exact h

theorem stamped_empty : NoticeCell.Stamped {} := by simp [NoticeCell.Stamped]

theorem set_true_ne_empty (s : KindSet) (k : NoticeKind) : s.set k true ≠ {} := by
  cases k <;> simp [KindSet.set]

theorem stamped_add {c : NoticeCell} (h : c.Stamped) (k : NoticeKind) (g : Generation) : (c.add k g).Stamped := by
  refine iff_of_true ?_ (set_true_ne_empty _ _)
  simp only [NoticeCell.add]
  split
  · next hp => exact h.mpr (by simpa [NoticeCell.pending, KindSet.isEmpty] using hp)
  · rfl

/-- A cell with a set `ks` of kinds, and its generation where the set is not empty. -/
theorem stamped_of_subset {c : NoticeCell} (h : c.Stamped) {ks : KindSet} (hk : ks ≠ {} → c.kinds ≠ {}) :
    NoticeCell.Stamped { kinds := ks, generation := if ks.isEmpty then none else c.generation } := by
  unfold NoticeCell.Stamped
  by_cases he : ks = {}
  · simp [he, KindSet.isEmpty]
  · have : ks.isEmpty = false := by simpa [KindSet.isEmpty] using he
    simp only [this]
    exact iff_of_true (h.mpr (hk he)) he

theorem stamped_drop {c : NoticeCell} (h : c.Stamped) (k : NoticeKind) : (c.drop k).Stamped := by
  refine stamped_of_subset h fun hk h0 => hk ?_
  rw [h0]; cases k <;> rfl

theorem stamped_keepRetireDone {c : NoticeCell} (h : c.Stamped) : c.keepRetireDone.Stamped := by
  refine stamped_of_subset h fun hk h0 => hk ?_
  rw [h0]

section
variable (d : Device) (e : EntryIx) (a : Agent)

theorem keeps_setNotice {x : NoticeCell} (hx : (d.notice e a).Stamped → x.Stamped) : Keeps d (d.setNotice e a x) :=
  keeps_of_notices rfl rfl rfl fun e' a' h => by
    rw [Device.notice_setNotice]
    split
    · next h' => obtain ⟨rfl, rfl⟩ := h'; exact hx h
    · exact h

theorem keeps_postGen (k : NoticeKind) (g : Generation) : Keeps d (d.postGen e a k g) := by
  unfold Device.postGen
  split
  · exact keeps_setNotice d e a fun h => stamped_add h k g
  · exact .refl d

theorem keeps_post (k : NoticeKind) : Keeps d (d.post e a k) := keeps_postGen ..

theorem keeps_unpost (k : NoticeKind) : Keeps d (d.unpost e a k) :=
  keeps_setNotice d e a fun h => stamped_drop h k

theorem keeps_clearAgentNotices : Keeps d (d.clearAgentNotices a) :=
  keeps_of_notices rfl rfl rfl fun e b h => by
    simp only [Device.notice, Device.clearAgentNotices, tget_tabulate, tget_tset]
    split
    · exact stamped_empty
    · exact h

theorem keeps_setChan (x : Channel) : Keeps d (d.setChan a x) := keeps_of_board rfl rfl rfl rfl

theorem keeps_finish (c : Cmd) (r : Results) : Keeps d (d.finish a c r) := keeps_setChan ..

theorem keeps_setAgent (x : AgentRec) : Keeps d (d.setAgent a x) := keeps_of_board rfl rfl rfl rfl

theorem keeps_setRoster (x : Roster) : Keeps d (d.setRoster a x) := keeps_setAgent ..

theorem nextTicket_ne_zero (t : Ticket) : nextTicket t ≠ 0 := by
  unfold nextTicket
  split
  · decide
  · next hf => intro h0; exact hf (by have := congrArg (· - 1) h0; simpa using this)

theorem keeps_advanceTicket : Keeps d d.advanceTicket where
  names h := ⟨⟨nextTicket_ne_zero d.ticket, h.tickets.issued⟩, h.generations, h.keys, h.notices⟩
  pool h := h
  queues h := h
  control h := ⟨h.entry, h.generation, h.unsteered⟩

/-- A group record written with the binding it had, or one to the same entry. -/
theorem keeps_setGroup (g : GroupIx) {x : GroupRec}
    (hx : ∀ b, x.binding = some b → ∃ b', (d.group g).binding = some b' ∧ b'.entry = b.entry) :
    Keeps d (d.setGroup g x) where
  names h := ⟨⟨h.tickets.counter, h.tickets.issued⟩, h.generations, h.keys, h.notices⟩
  pool h := h
  queues h := h
  control h :=
    { entry := h.entry
      generation := h.generation
      unsteered := fun y b hb => by
        rw [Device.group_setGroup] at hb
        split at hb
        · obtain ⟨b', hb', he⟩ := hx b hb
          rw [← he]; exact h.unsteered g b' hb'
        · exact h.unsteered y b hb }

theorem keeps_unbindGroup (g : Option GroupIx) : Keeps d (d.unbindGroup g) := by
  cases g with
  | none => exact .refl d
  | some g => exact keeps_setGroup d g fun b hb => by simp [GroupRec.unbind] at hb

end

/-! ### One record replaced -/

/-- `d'` is `d` with the record `r` of entry `e` replaced by `r'`, and the ticket counter as it was or advanced. -/
structure Replaces (e : EntryIx) (r r' : Record) (d d' : Device) : Prop where
  before : d.entry e = some r
  after : d' = { d.putRecord e r' with ticket := d'.ticket }
  ticket : d'.ticket = d.ticket ∨ d'.ticket = nextTicket d.ticket

/-- What the replacement of a record keeps of its names and its queue. -/
structure Record.Follows (t : Ticket) (r r' : Record) : Prop where
  key : r'.key = r.key
  tickets : ∀ h ∈ r'.holders, h.ticket = t ∨ ∃ x ∈ r.holders, h.ticket = x.ticket
  length : r'.queue.length ≤ r.queue.length
  ordered : QueueOrdered r.queue → QueueOrdered r'.queue

namespace Replaces
variable {e : EntryIx} {r r' : Record} {d d' : Device}

theorem entry (h : Replaces e r r' d d') (x : EntryIx) : d'.entry x = if e = x then some r' else d.entry x := by
  rw [h.after]; exact entry_putRecord ..

theorem entry_same (h : Replaces e r r' d d') : d'.entry e = some r' := by rw [h.entry, if_pos rfl]

theorem entry_ne (h : Replaces e r r' d d') {x : EntryIx} (hx : x ≠ e) : d'.entry x = d.entry x := by
  rw [h.entry, if_neg (Ne.symm hx)]

theorem generation (h : Replaces e r r' d d') (x : EntryIx) : (d'.slot x).generation = (d.slot x).generation := by
  have hs : d'.slots = (d.putRecord e r').slots := by rw [h.after]
  unfold Device.slot
  rw [hs, Device.putRecord_slots, tget_tset]
  split
  · next hx => rw [hx]
  · rfl

theorem groups (h : Replaces e r r' d d') : d'.groups = d.groups := by rw [h.after]; rfl
theorem notices (h : Replaces e r r' d d') : d'.notices = d.notices := by rw [h.after]; rfl
theorem agents (h : Replaces e r r' d d') : d'.agents = d.agents := by rw [h.after]; rfl
theorem channels (h : Replaces e r r' d d') : d'.channels = d.channels := by rw [h.after]; rfl

theorem group (h : Replaces e r r' d d') (g : GroupIx) : d'.group g = d.group g := by
  unfold Device.group; rw [h.groups]

/-- A record updated by a function. -/
theorem modifyEntry (hr : d.entry e = some r) (f : Record → Record) : Replaces e r (f r) d (d.modifyEntry e f) where
  before := hr
  after := modifyEntry_eq_putRecord hr f
  ticket := .inl rfl

/-- The counter may advance after the replacement. -/
theorem advance (h : Replaces e r r' d d') (ht : d'.ticket = d.ticket) : Replaces e r r' d d'.advanceTicket where
  before := h.before
  after := by
    have := h.after
    rw [Device.advanceTicket, this]
  ticket := .inr (by rw [Device.advanceTicket_ticket, ht])

/-- A second replacement of the same record. -/
theorem modify_again (h : Replaces e r r' d d') (f : Record → Record) :
    Replaces e r (f r') d (d'.modifyEntry e f) where
  before := h.before
  after := by
    rw [modifyEntry_eq_putRecord h.entry_same, h.after]
    simp [Device.putRecord]
  ticket := h.ticket

end Replaces

/-- The value of a sum over the records, at one slot. -/
def slotValue (f : Record → Nat) : Option Record → Nat
  | some r => f r
  | none => 0

theorem sumEntries_eq_list (d : Device) (f : Record → Nat) :
    d.sumEntries f = (allEntries.map fun e => slotValue f (d.entry e)).sum :=
  congrArg List.sum (List.map_congr_left fun e _ => by cases d.entry e <;> rfl)

theorem sumEntries_eq (d : Device) (f : Record → Nat) : d.sumEntries f = ∑ e, slotValue f (d.entry e) := by
  rw [sumEntries_eq_list, Fin.sum_univ_def, allEntries]

theorem sumEntries_le {d d' : Device} {f g : Record → Nat} (h : ∀ e, slotValue f (d'.entry e) ≤ slotValue g (d.entry e)) :
    d'.sumEntries f ≤ d.sumEntries g := by
  rw [sumEntries_eq, sumEntries_eq]
  exact Finset.sum_le_sum fun e _ => h e

/-- A sum over the records grows by as much as one of them does, where the others stay. -/
theorem sumEntries_le_add {d d' : Device} {f : Record → Nat} {e : EntryIx} {k : Nat}
    (he : slotValue f (d'.entry e) ≤ slotValue f (d.entry e) + k) (hx : ∀ x, x ≠ e → d'.entry x = d.entry x) :
    d'.sumEntries f ≤ d.sumEntries f + k := by
  rw [sumEntries_eq, sumEntries_eq, ← Finset.add_sum_erase _ _ (Finset.mem_univ e),
    ← Finset.add_sum_erase _ (fun x => slotValue f (d.entry x)) (Finset.mem_univ e)]
  have : ∑ x ∈ Finset.univ.erase e, slotValue f (d'.entry x) = ∑ x ∈ Finset.univ.erase e, slotValue f (d.entry x) :=
    Finset.sum_congr rfl fun x hm => by rw [hx x (Finset.ne_of_mem_erase hm)]
  omega

theorem sumEntries_add (d : Device) (f g : Record → Nat) :
    d.sumEntries (fun r => f r + g r) = d.sumEntries f + d.sumEntries g := by
  rw [sumEntries_eq, sumEntries_eq, sumEntries_eq, ← Finset.sum_add_distrib]
  refine Finset.sum_congr rfl fun e _ => ?_
  cases d.entry e <;> rfl

theorem Replaces.sum_mono {e : EntryIx} {r r' : Record} {d d' : Device} (h : Replaces e r r' d d') {f : Record → Nat}
    (hf : f r' ≤ f r) : d'.sumEntries f ≤ d.sumEntries f :=
  sumEntries_le fun x => by
    rw [h.entry]
    split
    · next hx => rw [← hx, h.before]; exact hf
    · exact le_rfl

theorem Replaces.sum_le {e : EntryIx} {r r' : Record} {d d' : Device} (h : Replaces e r r' d d') {f : Record → Nat} {k : Nat}
    (hf : f r' ≤ f r + k) : d'.sumEntries f ≤ d.sumEntries f + k :=
  sumEntries_le_add (by rw [h.entry_same, h.before]; exact hf) fun _ hx => h.entry_ne hx

namespace Replaces
variable {e : EntryIx} {r r' : Record} {d d' : Device}

theorem ticketsNonzero (h : Replaces e r r' d d')
    (hf : ∀ y ∈ r'.holders, y.ticket = d.ticket ∨ ∃ x ∈ r.holders, y.ticket = x.ticket) (hn : d.TicketsNonzero) :
    d'.TicketsNonzero where
  counter := by
    rcases h.ticket with ht | ht <;> rw [ht]
    · exact hn.counter
    · exact nextTicket_ne_zero d.ticket
  issued x s hs y hy := by
    rw [h.entry] at hs
    split at hs
    · cases hs
      rcases hf y hy with ht | ⟨z, hz, ht⟩ <;> rw [ht]
      · exact hn.counter
      · exact hn.issued e r h.before z hz
    · exact hn.issued x s hs y hy

theorem key_before (h : Replaces e r r' d d') (hk : r'.key = r.key) {x : EntryIx} {s : Record} (hs : d'.entry x = some s) :
    ∃ s₀, d.entry x = some s₀ ∧ s.key = s₀.key := by
  rw [h.entry] at hs
  split at hs
  · next hx => cases hs; exact ⟨r, hx ▸ h.before, hk⟩
  · exact ⟨s, hs, rfl⟩

theorem keysDistinct (h : Replaces e r r' d d') (hk : r'.key = r.key) (hd : d.KeysDistinct) :
    d'.KeysDistinct := by
  intro x x' s s' hs hs' hss
  obtain ⟨s₀, h₀, k₀⟩ := h.key_before hk hs
  obtain ⟨s₁, h₁, k₁⟩ := h.key_before hk hs'
  exact hd x x' s₀ s₁ h₀ h₁ (k₀ ▸ k₁ ▸ hss)

theorem namesSound (h : Replaces e r r' d d') (hk : r'.key = r.key)
    (hf : ∀ y ∈ r'.holders, y.ticket = d.ticket ∨ ∃ x ∈ r.holders, y.ticket = x.ticket) (hn : d.NamesSound) :
    d'.NamesSound where
  tickets := h.ticketsNonzero hf hn.tickets
  generations x := by rw [h.generation]; exact hn.generations x
  keys := h.keysDistinct hk hn.keys
  notices x a := by unfold Device.notice; rw [h.notices]; exact hn.notices x a

theorem controlLeaseKept (h : Replaces e r r' d d') (hf : e = 0 → r.IsControlLease → r'.IsControlLease)
    (hc : d.ControlLeaseKept) : d'.ControlLeaseKept where
  entry := by
    obtain ⟨s, hs, hl⟩ := hc.entry
    rw [h.entry]
    split
    · next he =>
      have hb := h.before
      rw [he, hs] at hb
      cases hb
      exact ⟨r', rfl, hf he hl⟩
    · exact ⟨s, hs, hl⟩
  generation := by rw [h.generation]; exact hc.generation
  unsteered g b := by rw [h.group]; exact hc.unsteered g b

theorem queuesOrdered (h : Replaces e r r' d d') (hf : QueueOrdered r.queue → QueueOrdered r'.queue)
    (hq : d.QueuesOrdered) : d'.QueuesOrdered := by
  intro x s hs
  rw [h.entry] at hs
  split at hs
  · cases hs; exact hf (hq e r h.before)
  · exact hq x s hs

/-- A record replaced by one that follows it. -/
theorem keepsNames (h : Replaces e r r' d d') (hf : Record.Follows d.ticket r r') : KeepsNames d d' where
  names := h.namesSound hf.key hf.tickets
  pool := le_trans (h.sum_mono hf.length)
  queues := h.queuesOrdered hf.ordered

theorem keeps (h : Replaces e r r' d d') (hf : Record.Follows d.ticket r r')
    (hl : e = 0 → r.IsControlLease → r'.IsControlLease) : Keeps d d' :=
  ⟨h.keepsNames hf, h.controlLeaseKept hl⟩

end Replaces

end Sys2Proof.Machine
end

section
/-!
PROOFS. The agreement of records and groups (R113, R114, R118) entry by entry and group by group, so that an operation on
one entry has to look at that entry and its group alone.
-/
namespace Sys2Proof.Machine

/-! ### Agreement of one entry, and of one group -/

/-- The record `r` of entry `e` agrees with `x`, the group it names. -/
structure Record.AgreesWith (r : Record) (e : EntryIx) (x : GroupRec) : Prop where
  bound : ∃ b, x.binding = some b ∧ b.entry = e
  switching : r.isSwitching = true ↔ x.state = .switching
  faulted : r.occupancy = .faulted ↔ x.state = .faulted
  selects : ∀ h ∈ r.holders, x.select = .agent h.agent
  driven : ∀ b t n, x.binding = some b → r.occupancy = .switching t → x.phase = some (.requesting n) →
    x.select = b.targetValue t

/-- The record `r` in slot `e` agrees within itself and with its group, if it has one. -/
structure Device.RecordAgrees (d : Device) (e : EntryIx) (r : Record) : Prop where
  agrees : r.Agrees
  unsteered : r.group = none → r.occupancy.Plain
  steered : ∀ g, r.group = some g → r.AgreesWith e (d.group g)

/-- Group `g` is bound exactly while it is not UNBOUND, and the entry it is bound to names it. -/
structure Device.GroupAgrees (d : Device) (g : GroupIx) : Prop where
  unbound : (d.group g).binding = none ↔ (d.group g).state = .unbound
  entry : ∀ b, (d.group g).binding = some b → ∃ r, d.entry b.entry = some r ∧ r.group = some g

theorem consistent_iff {d : Device} :
    d.Consistent ↔ (∀ e r, d.entry e = some r → d.RecordAgrees e r) ∧ ∀ g, d.GroupAgrees g := by
  constructor
  · intro h
    refine ⟨fun e r hr => ?_, fun g => ⟨h.unbound g, fun b hb => ?_⟩⟩
    · refine ⟨h.records e r hr, fun hg => plain_iff.mpr (h.unsteered e r hr hg), fun g hg => ?_⟩
      obtain ⟨hs, hf⟩ := h.together e r g hr hg
      refine ⟨(h.bound e g).mp ⟨r, hr, hg⟩, hs, hf, fun x hx => h.selects e r g x hr hg hx, fun b t n hb ht hn => ?_⟩
      rw [h.driven e r g b t n hr hg hb ht hn]
      cases t <;> rfl
    · exact (h.bound b.entry g).mpr ⟨b, hb, rfl⟩
  · rintro ⟨he, hg⟩
    exact
      { records := fun e r hr => (he e r hr).agrees
        bound := fun e g => by
          constructor
          · rintro ⟨r, hr, hrg⟩; exact ((he e r hr).steered g hrg).bound
          · rintro ⟨b, hb, rfl⟩; exact (hg g).entry b hb
        unbound := fun g => (hg g).unbound
        together := fun e r g hr hrg => ⟨((he e r hr).steered g hrg).switching, ((he e r hr).steered g hrg).faulted⟩
        unsteered := fun e r hr hrg => plain_iff.mp ((he e r hr).unsteered hrg)
        selects := fun e r g x hr hrg hx => ((he e r hr).steered g hrg).selects x hx
        driven := fun e r g b t n hr hrg hb ht hn => by
          rw [((he e r hr).steered g hrg).driven b t n hb ht hn]
          cases t <;> rfl }

section
variable {d d' : Device} {e : EntryIx} {r r' : Record}

theorem Device.Consistent.at (h : d.Consistent) (hr : d.entry e = some r) : d.RecordAgrees e r :=
  (consistent_iff.mp h).1 e r hr

theorem Device.Consistent.group (h : d.Consistent) (g : GroupIx) : d.GroupAgrees g := (consistent_iff.mp h).2 g

/-- The group of an entry is bound to that entry. -/
theorem Device.Consistent.binding (h : d.Consistent) (hr : d.entry e = some r) {g : GroupIx} (hg : r.group = some g) :
    ∃ b, (d.group g).binding = some b ∧ b.entry = e := ((h.at hr).steered g hg).bound

/-- A group bound to an entry is that entry's. -/
theorem Device.Consistent.group_of_binding (h : d.Consistent) (hr : d.entry e = some r) {g : GroupIx} {b : Binding}
    (hb : (d.group g).binding = some b) (he : b.entry = e) : r.group = some g := by
  obtain ⟨s, hs, hg⟩ := (h.group g).entry b hb
  rw [he, hr] at hs
  cases hs
  exact hg

theorem Device.Consistent.plain_of_held (h : d.Consistent) (hr : d.entry e = some r) (hh : r.holders ≠ []) :
    r.occupancy.Plain := plain_of_holders (h.at hr).agrees.fits hh

/-- The agreement looks at slots and groups alone. -/
theorem consistent_of_same (hs : d'.slots = d.slots) (hg : d'.groups = d.groups) (h : d.Consistent) : d'.Consistent := by
  have he : ∀ e, d'.entry e = d.entry e := entry_of_slots hs
  have hg' : ∀ g, d'.group g = d.group g := fun g => by unfold Device.group; rw [hg]
  refine consistent_iff.mpr ⟨fun e r hr => ?_, fun g => ?_⟩
  · rw [he] at hr
    obtain ⟨ha, hu, hst⟩ := h.at hr
    exact ⟨ha, hu, fun g hrg => by rw [hg']; exact hst g hrg⟩
  · obtain ⟨hu, hb⟩ := h.group g
    exact ⟨by rw [hg']; exact hu, fun b hb' => by rw [he]; rw [hg'] at hb'; exact hb b hb'⟩

/-- An operation that reaches entry `e`, and of the groups only those bound to it or to none: the agreement has to be shown
of that entry and of the groups changed. -/
theorem consistent_of_local (h : d.Consistent) (hx : ∀ x, x ≠ e → d'.entry x = d.entry x)
    (he : ∀ r', d'.entry e = some r' → d'.RecordAgrees e r')
    (hg : ∀ g, (d'.group g = d.group g ∧ ∀ b, (d.group g).binding = some b → b.entry ≠ e) ∨
      (d'.GroupAgrees g ∧ ∀ b, (d.group g).binding = some b → b.entry = e)) : d'.Consistent := by
  refine consistent_iff.mpr ⟨fun x s hs => ?_, fun g => ?_⟩
  · by_cases hxe : x = e
    · subst hxe; exact he s hs
    · rw [hx x hxe] at hs
      obtain ⟨ha, hu, hst⟩ := h.at hs
      refine ⟨ha, hu, fun g hsg => ?_⟩
      rcases hg g with ⟨hsame, -⟩ | ⟨-, hto⟩
      · rw [hsame]; exact hst g hsg
      · obtain ⟨b, hb, hbx⟩ := (hst g hsg).bound
        exact absurd (hbx.symm.trans (hto b hb)) hxe
  · rcases hg g with ⟨hsame, hne⟩ | ⟨hok, -⟩
    · obtain ⟨hu, hb⟩ := h.group g
      refine ⟨by rw [hsame]; exact hu, fun b hb' => ?_⟩
      rw [hsame] at hb'
      rw [hx _ (hne b hb')]
      exact hb b hb'
    · exact hok

/-! ### One record replaced -/

/-- The replacement of the record `r` by `r'` leaves it in agreement with its group: SWITCHING and FAULTED stay, and a new
holder is the agent that the group selects (R113, R114). -/
structure Record.StaysSteered (d : Device) (r r' : Record) : Prop where
  group : r'.group = r.group
  occupancy : r'.occupancy = r.occupancy ∨ r.occupancy.Plain ∧ r'.occupancy.Plain
  holders : ∀ h ∈ r'.holders, (∃ x ∈ r.holders, x.agent = h.agent) ∨
    ∀ g, r.group = some g → (d.group g).select = .agent h.agent

theorem Record.AgreesWith.stays {x : GroupRec} {g : GroupIx} (h : r.AgreesWith e x) (hs : Record.StaysSteered d r r')
    (hg : r.group = some g) (hx : d.group g = x) : r'.AgreesWith e x where
  bound := h.bound
  switching := by
    rcases hs.occupancy with ho | ⟨hp, hp'⟩
    · rw [← h.switching]; simp [Record.isSwitching, ho]
    · rw [← h.switching, (plain_iff.mp hp).1, (plain_iff.mp hp').1]
  faulted := by
    rcases hs.occupancy with ho | ⟨hp, hp'⟩
    · rw [← h.faulted, ho]
    · rw [← h.faulted]; exact iff_of_false (plain_iff.mp hp').2 (plain_iff.mp hp).2
  selects y hy := by
    rcases hs.holders y hy with ⟨z, hz, ha⟩ | hsel
    · rw [h.selects z hz, ha]
    · rw [← hx]; exact hsel g hg
  driven b t n hb ht hn := by
    rcases hs.occupancy with ho | ⟨-, hp'⟩
    · exact h.driven b t n hb (ho ▸ ht) hn
    · rw [ht] at hp'; exact hp'.elim

theorem Replaces.consistent (h : Replaces e r r' d d') (ha : r'.Agrees) (hs : Record.StaysSteered d r r')
    (hc : d.Consistent) : d'.Consistent := by
  obtain ⟨-, hu, hst⟩ := hc.at h.before
  refine consistent_iff.mpr ⟨fun x s hs' => ?_, fun g => ?_⟩
  · by_cases hx : x = e
    · subst hx
      rw [h.entry_same] at hs'
      cases hs'
      refine ⟨ha, fun hn => ?_, fun g hg => ?_⟩
      · rcases hs.occupancy with ho | ⟨-, hp⟩
        · rw [ho]; exact hu (hs.group ▸ hn)
        · exact hp
      · rw [h.group]
        rw [hs.group] at hg
        exact (hst g hg).stays hs hg rfl
    · rw [h.entry_ne hx] at hs'
      obtain ⟨ha', hu', hst'⟩ := hc.at hs'
      exact ⟨ha', hu', fun g hg => by rw [h.group]; exact hst' g hg⟩
  · obtain ⟨hub, hb⟩ := hc.group g
    refine ⟨by rw [h.group]; exact hub, fun b hb' => ?_⟩
    rw [h.group] at hb'
    obtain ⟨s, hs', hsg⟩ := hb b hb'
    rw [h.entry]
    split
    · next he =>
      rw [← he, h.before] at hs'
      cases hs'
      exact ⟨r', rfl, hs.group.trans hsg⟩
    · exact ⟨s, hs', hsg⟩

end

end Sys2Proof.Machine
end

section
/-!
PROOFS. What operations keep of a device whose records and groups agree: that agreement, the quotas (R134), and for each
agent what its roster state says of it (R133). `Steady` says it of an operation, along with what `Keeps` says.
-/
namespace Sys2Proof.Machine

/-- An agent that is not ONLINE does not wait on entry `e` (R133). -/
def Device.WaitlessOn (d : Device) (a : Agent) (e : EntryIx) : Prop :=
  (d.agent a).state ≠ .online → ∀ r, d.entry e = some r → r.waitedBy a = false

/-- An agent that is OFFLINE or FENCED does not hold entry `e` (R133). -/
def Device.AbsentOn (d : Device) (a : Agent) (e : EntryIx) : Prop :=
  (d.agent a).state = .offline ∨ (d.agent a).state = .fenced → ∀ r, d.entry e = some r → r.heldBy a = false

/-- An agent that is not ONLINE has nothing pending for slot `e` (R133). -/
def Device.UntoldOn (d : Device) (a : Agent) (e : EntryIx) : Prop :=
  (d.agent a).state ≠ .online → d.notice e a = {}

/-- The operation from `d` to `d'`, where the records and groups of `d` agree, keeps that, the quotas, and the agreement of
each agent's roster state with each slot. -/
structure Calm (d d' : Device) : Prop where
  consistent : d.Consistent → d'.Consistent
  quotas : d.Consistent → d.QuotasKept → d'.QuotasKept
  waitless : d.Consistent → ∀ a e, d.WaitlessOn a e → d'.WaitlessOn a e
  absent : d.Consistent → ∀ a e, d.WaitlessOn a e → d.AbsentOn a e → d'.AbsentOn a e
  untold : d.Consistent → ∀ a e, d.UntoldOn a e → d'.UntoldOn a e

/-- The operation from `d` to `d'` keeps all that an operation on the records keeps by itself. -/
structure Steady (d d' : Device) : Prop extends Keeps d d', Calm d d'

namespace Calm

theorem refl (d : Device) : Calm d d := ⟨id, fun _ => id, fun _ _ _ => id, fun _ _ _ _ => id, fun _ _ _ => id⟩

theorem trans {d d' d'' : Device} (h : Calm d d') (h' : Calm d' d'') : Calm d d'' where
  consistent hc := h'.consistent (h.consistent hc)
  quotas hc hq := h'.quotas (h.consistent hc) (h.quotas hc hq)
  waitless hc a e hw := h'.waitless (h.consistent hc) a e (h.waitless hc a e hw)
  absent hc a e hw ha := h'.absent (h.consistent hc) a e (h.waitless hc a e hw) (h.absent hc a e hw ha)
  untold hc a e hu := h'.untold (h.consistent hc) a e (h.untold hc a e hu)

/-- What is to be shown may use the agreement. -/
theorem of_consistent {d d' : Device} (h : d.Consistent → Calm d d') : Calm d d' :=
  ⟨fun hc => (h hc).consistent hc, fun hc => (h hc).quotas hc, fun hc => (h hc).waitless hc, fun hc => (h hc).absent hc,
    fun hc => (h hc).untold hc⟩

end Calm

namespace Steady

theorem refl (d : Device) : Steady d d := ⟨.refl d, .refl d⟩

theorem trans {d d' d'' : Device} (h : Steady d d') (h' : Steady d' d'') : Steady d d'' :=
  ⟨h.toKeeps.trans h'.toKeeps, h.toCalm.trans h'.toCalm⟩

theorem foldl {α : Type} (f : Device → α → Device) (hf : ∀ d x, Steady d (f d x)) (l : List α) (d : Device) :
    Steady d (l.foldl f d) := by
  induction l generalizing d with
  | nil => exact refl d
  | cons x l ih => exact (hf d x).trans (ih _)

end Steady

/-! ### Operations that leave the records and the groups -/

theorem quotasKept_iff {d : Device} : d.QuotasKept ↔
    ∀ a, d.sumEntries (·.load a) ≤ (d.agent a).holdQuota ∧ d.sumEntries (·.waits a) ≤ (d.agent a).waitQuota := by
  have hl : ∀ a, d.sumEntries (·.load a) = d.holdCount a + d.nonUpgradeWaits a := fun a => sumEntries_add d _ _
  constructor
  · intro h a
    rw [hl]
    exact ⟨h.holds a, h.waits a⟩
  · intro h
    exact ⟨fun a => by rw [← hl]; exact (h a).1, fun a => (h a).2⟩

theorem quotas_of_same {d d' : Device} (hs : d'.slots = d.slots)
    (ha : ∀ a, (d'.agent a).holdQuota = (d.agent a).holdQuota ∧ (d'.agent a).waitQuota = (d.agent a).waitQuota)
    (h : d.QuotasKept) : d'.QuotasKept := by
  rw [quotasKept_iff] at h ⊢
  intro a
  rw [sumEntries_of_slots hs, sumEntries_of_slots hs, (ha a).1, (ha a).2]
  exact h a

theorem agent_of_agents {d d' : Device} (h : d'.agents = d.agents) (a : Agent) : d'.agent a = d.agent a := by
  unfold Device.agent; rw [h]

/-- Records and groups stay; the notices of agents that are not ONLINE may go, and none may come. -/
theorem calm_of_notices {d d' : Device} (hs : d'.slots = d.slots) (hg : d'.groups = d.groups)
    (ha : d'.agents = d.agents)
    (hn : ∀ a, (d.agent a).state ≠ .online → ∀ e, d.notice e a = {} → d'.notice e a = {}) : Calm d d' where
  consistent := consistent_of_same hs hg
  quotas _ := quotas_of_same hs fun a => by rw [agent_of_agents ha]; exact ⟨rfl, rfl⟩
  waitless _ a e h := by
    unfold Device.WaitlessOn
    rw [agent_of_agents ha, entry_of_slots hs]
    exact h
  absent _ a e _ h := by
    unfold Device.AbsentOn
    rw [agent_of_agents ha, entry_of_slots hs]
    exact h
  untold _ a e h hst := by
    rw [agent_of_agents ha] at hst
    exact hn a hst e (h hst)

theorem steady_of_board {d d' : Device} (hs : d'.slots = d.slots) (hg : d'.groups = d.groups)
    (ht : d'.ticket = d.ticket) (hn : d'.notices = d.notices) (ha : d'.agents = d.agents) : Steady d d' :=
  ⟨keeps_of_board hs hg ht hn, calm_of_notices hs hg ha fun a _ e h => by unfold Device.notice; rw [hn]; exact h⟩

section
variable (d : Device) (e : EntryIx) (a : Agent)

theorem calm_setNotice {x : NoticeCell} (hx : (d.agent a).state ≠ .online → d.notice e a = {} → x = {}) :
    Calm d (d.setNotice e a x) :=
  calm_of_notices rfl rfl rfl fun b hb e' h => by
    rw [Device.notice_setNotice]
    split
    · next h' => obtain ⟨rfl, rfl⟩ := h'; exact hx hb h
    · exact h

theorem steady_postGen (k : NoticeKind) (g : Generation) : Steady d (d.postGen e a k g) := by
  refine ⟨keeps_postGen .., ?_⟩
  unfold Device.postGen
  split
  · next ho => exact calm_setNotice d e a fun hn => absurd ho hn
  · exact .refl d

theorem steady_post (k : NoticeKind) : Steady d (d.post e a k) := steady_postGen ..

theorem steady_unpost (k : NoticeKind) : Steady d (d.unpost e a k) :=
  ⟨keeps_unpost .., calm_setNotice d e a fun _ h0 => by rw [h0]; cases k <;> rfl⟩

theorem steady_tellAsk (o : AskOutcome) : Steady d (d.tellAsk e a o) := by
  cases o
  · exact .refl d
  · exact steady_post ..
  · exact steady_unpost ..

theorem steady_clearAgentNotices : Steady d (d.clearAgentNotices a) := by
  refine ⟨keeps_clearAgentNotices .., calm_of_notices rfl rfl rfl fun b _ e h => ?_⟩
  simp only [Device.notice, Device.clearAgentNotices, tget_tabulate, tget_tset]
  split
  · rfl
  · exact h

theorem steady_setChan (x : Channel) : Steady d (d.setChan a x) := steady_of_board rfl rfl rfl rfl rfl

theorem steady_finish (c : Cmd) (r : Results) : Steady d (d.finish a c r) := steady_setChan ..

theorem steady_closeWindow : Steady d d.closeWindow := by
  unfold Device.closeWindow
  split
  · exact .refl d
  · exact steady_of_board rfl rfl rfl rfl rfl

theorem steady_advanceTicket : Steady d d.advanceTicket :=
  ⟨keeps_advanceTicket d, calm_of_notices rfl rfl rfl fun _ _ _ h => h⟩

theorem steady_tellWaiter (c : WaitCell) (code : ResultCode) (k : NoticeKind) : Steady d (d.tellWaiter e c code k) := by
  unfold Device.tellWaiter
  split
  · exact steady_finish ..
  · exact steady_post ..

end

/-! ### One record replaced -/

/-- The record `r'` claims no more than `r` for any agent. -/
structure Record.ClaimsLe (r' r : Record) : Prop where
  load : ∀ a, r'.load a ≤ r.load a
  waits : ∀ a, r'.waits a ≤ r.waits a

section
variable {d d' : Device} {e : EntryIx} {r r' : Record}

theorem Record.ClaimsLe.waitedBy (h : r'.ClaimsLe r) {a : Agent} (hw : r.waitedBy a = false) : r'.waitedBy a = false := by
  rw [← waits_eq_zero] at hw ⊢
  exact Nat.le_zero.mp (hw ▸ h.waits a)

theorem Record.ClaimsLe.heldBy (h : r'.ClaimsLe r) {a : Agent} (hw : r.waitedBy a = false) (hh : r.heldBy a = false) :
    r'.heldBy a = false := by
  rw [← load_eq_zero (h.waitedBy hw)]
  exact Nat.le_zero.mp ((load_eq_zero hw).mpr hh ▸ h.load a)

theorem Record.ClaimsLe.trans {r'' : Record} (h : r''.ClaimsLe r') (h' : r'.ClaimsLe r) : r''.ClaimsLe r :=
  ⟨fun a => (h.load a).trans (h'.load a), fun a => (h.waits a).trans (h'.waits a)⟩

/-- OFFLINE, FENCED and REJOINING agents are the agents that are not ONLINE. -/
theorem ne_online_of_absent {x : Roster} (h : x = .offline ∨ x = .fenced) : x ≠ .online := by
  rcases h with rfl | rfl <;> decide

theorem Replaces.agent (h : Replaces e r r' d d') (a : Agent) : d'.agent a = d.agent a := agent_of_agents h.agents a

theorem Replaces.waitlessOn (h : Replaces e r r' d d') {a : Agent}
    (hw : (d.agent a).state ≠ .online → r.waitedBy a = false → r'.waitedBy a = false) {x : EntryIx} (ha : d.WaitlessOn a x) :
    d'.WaitlessOn a x := by
  intro hst s hs
  rw [h.agent] at hst
  rw [h.entry] at hs
  split at hs
  · next hx => subst hx; cases hs; exact hw hst (ha hst r h.before)
  · exact ha hst s hs

theorem Replaces.absentOn (h : Replaces e r r' d d') {a : Agent}
    (hh : (d.agent a).state ≠ .online → r.waitedBy a = false → r.heldBy a = false → r'.heldBy a = false)
    {x : EntryIx} (hw : d.WaitlessOn a x) (ha : d.AbsentOn a x) : d'.AbsentOn a x := by
  intro hst s hs
  rw [h.agent] at hst
  rw [h.entry] at hs
  split at hs
  · next hx =>
    subst hx
    cases hs
    have hn := ne_online_of_absent hst
    exact hh hn (hw hn r h.before) (ha hst r h.before)
  · exact ha hst s hs

theorem Replaces.untoldOn (h : Replaces e r r' d d') {a : Agent} {x : EntryIx} (ha : d.UntoldOn a x) : d'.UntoldOn a x := by
  intro hst
  rw [h.agent] at hst
  unfold Device.notice
  rw [h.notices]
  exact ha hst

/-- The sums of the claims grow by no more than those of the record replaced, in the quotas as they were. -/
theorem Replaces.quotasKept (h : Replaces e r r' d d')
    (hc : ∀ a, d.sumEntries (·.load a) ≤ (d.agent a).holdQuota → d'.sumEntries (·.load a) ≤ (d.agent a).holdQuota)
    (hw : ∀ a, d.sumEntries (·.waits a) ≤ (d.agent a).waitQuota → d'.sumEntries (·.waits a) ≤ (d.agent a).waitQuota)
    (hq : d.QuotasKept) : d'.QuotasKept := by
  rw [quotasKept_iff] at hq ⊢
  intro a
  rw [h.agent]
  exact ⟨hc a (hq a).1, hw a (hq a).2⟩

/-- A record replaced by one in agreement that claims no more. -/
theorem Replaces.calm (h : Replaces e r r' d d') (ha : d.Consistent → r'.Agrees)
    (hs : d.Consistent → Record.StaysSteered d r r') (hl : d.Consistent → r'.ClaimsLe r) : Calm d d' where
  consistent hc := h.consistent (ha hc) (hs hc) hc
  quotas hc := h.quotasKept (fun a => le_trans (h.sum_mono ((hl hc).load a)))
    fun a => le_trans (h.sum_mono ((hl hc).waits a))
  waitless hc _ _ := h.waitlessOn fun _ => (hl hc).waitedBy
  absent hc _ _ := h.absentOn fun _ => (hl hc).heldBy
  untold _ _ _ := h.untoldOn

end

end Sys2Proof.Machine
end

section
/-!
PROOFS. The operations on one record: the record that each leaves, and that each is steady.
-/
namespace Sys2Proof.Machine

/-! ### What each update of a record keeps -/

section
variable {d : Device} {r r' r'' : Record} {a : Agent} {t : Ticket}

theorem Record.Follows.trans (h : Record.Follows t r r') (h' : Record.Follows t r' r'') : Record.Follows t r r'' where
  key := h'.key.trans h.key
  tickets y hy := by
    rcases h'.tickets y hy with ht | ⟨z, hz, ht⟩
    · exact .inl ht
    · rw [ht]; exact h.tickets z hz
  length := h'.length.trans h.length
  ordered := h'.ordered ∘ h.ordered

/-- The holders stay and the queue loses cells. -/
theorem follows_subqueue {q : List WaitCell} (h : q.Sublist r.queue) : Record.Follows t r { r with queue := q } where
  key := rfl
  tickets y hy := .inr ⟨y, hy, rfl⟩
  length := h.length_le
  ordered ho := ho.sublist h

theorem follows_withoutCell : Record.Follows t r (r.withoutCell a) := follows_subqueue List.filter_sublist

theorem follows_withoutGrant : Record.Follows t r (r.withoutGrant a) where
  key := rfl
  tickets y hy := .inr ⟨y, List.mem_of_mem_filter hy, rfl⟩
  length := List.filter_sublist.length_le
  ordered ho := ho.sublist List.filter_sublist

theorem follows_map {f : Holder → Holder} {k : WaitCell → WaitCell} (hft : ∀ x, (f x).ticket = x.ticket)
    (hkm : ∀ c, (k c).mode = c.mode) (hkp : ∀ c, (k c).priority = c.priority) :
    Record.Follows t r { r with holders := r.holders.map f, queue := r.queue.map k } where
  key := rfl
  tickets y hy := by
    obtain ⟨x, hx, rfl⟩ := List.mem_map.mp hy
    exact .inr ⟨x, hx, hft x⟩
  length := (List.length_map _).le
  ordered ho := ho.map hkm hkp

theorem follows_withHolder {h : Holder} (ht : h.ticket = t) : Record.Follows t r (r.withHolder h) where
  key := rfl
  tickets y hy := by
    rcases List.mem_append.mp hy with hy | hy
    · exact .inr ⟨y, hy, rfl⟩
    · rw [List.mem_singleton.mp hy]; exact .inl ht
  length := le_rfl
  ordered := id

theorem follows_converted {p : Priority} {m : Term} : Record.Follows t r (r.converted a t p m) where
  key := rfl
  tickets y hy := by
    obtain ⟨x, hx, rfl⟩ := List.mem_map.mp hy
    split
    · exact .inl rfl
    · exact .inr ⟨x, hx, rfl⟩
  length := le_rfl
  ordered := id

/-- An occupancy written. -/
theorem follows_occupancy {o : Occupancy} : Record.Follows t r { r with occupancy := o } :=
  ⟨rfl, fun y hy => .inr ⟨y, hy, rfl⟩, le_rfl, id⟩

theorem staysSteered_subqueue {q : List WaitCell} : Record.StaysSteered d r { r with queue := q } :=
  ⟨rfl, .inl rfl, fun y hy => .inl ⟨y, hy, rfl⟩⟩

theorem staysSteered_withoutGrant (hp : r.occupancy.Plain) : Record.StaysSteered d r (r.withoutGrant a) :=
  ⟨rfl, .inr ⟨hp, plain_occupancyOf _⟩, fun y hy => .inl ⟨y, List.mem_of_mem_filter hy, rfl⟩⟩

theorem staysSteered_map {f : Holder → Holder} {k : WaitCell → WaitCell} (hfa : ∀ x, (f x).agent = x.agent) :
    Record.StaysSteered d r { r with holders := r.holders.map f, queue := r.queue.map k } :=
  ⟨rfl, .inl rfl, fun y hy => by
    obtain ⟨x, hx, rfl⟩ := List.mem_map.mp hy
    exact .inl ⟨x, hx, (hfa x).symm⟩⟩

theorem staysSteered_withHolder {h : Holder} (hp : r.occupancy.Plain)
    (hs : ∀ g, r.group = some g → (d.group g).select = .agent h.agent) : Record.StaysSteered d r (r.withHolder h) :=
  ⟨rfl, .inr ⟨hp, plain_occupancyOf _⟩, fun y hy => by
    rcases List.mem_append.mp hy with hy | hy
    · exact .inl ⟨y, hy, rfl⟩
    · rw [List.mem_singleton.mp hy]; exact .inr hs⟩

/-- Holders that keep their agents, under an occupancy of a held entry. -/
theorem staysSteered_holders {hs : List Holder} (hp : r.occupancy.Plain) {o : Occupancy} (ho : o.Plain)
    (ha : hs.map (·.agent) = r.holders.map (·.agent)) :
    Record.StaysSteered d r { r with holders := hs, occupancy := o } :=
  ⟨rfl, .inr ⟨hp, ho⟩, fun y hy => by
    have : y.agent ∈ r.holders.map (·.agent) := ha ▸ List.mem_map_of_mem (f := fun x : Holder => x.agent) hy
    obtain ⟨x, hx, hxa⟩ := List.mem_map.mp this
    exact .inl ⟨x, hx, hxa⟩⟩

theorem Record.StaysSteered.trans (h : Record.StaysSteered d r r') (h' : Record.StaysSteered d r' r'') :
    Record.StaysSteered d r r'' where
  group := h'.group.trans h.group
  occupancy := by
    rcases h.occupancy with ho | ⟨hp, hp'⟩
    · rw [← ho]; exact h'.occupancy
    · rcases h'.occupancy with ho' | ⟨-, hp''⟩
      · exact .inr ⟨hp, ho' ▸ hp'⟩
      · exact .inr ⟨hp, hp''⟩
  holders y hy := by
    rcases h'.holders y hy with ⟨z, hz, ha⟩ | hs
    · rw [← ha]; exact h.holders z hz
    · exact .inr fun g hg => hs g (h.group.trans hg)

theorem claimsLe_subqueue {q : List WaitCell} (h : q.Sublist r.queue) : ({ r with queue := q } : Record).ClaimsLe r :=
  ⟨fun _ => load_subqueue h, fun _ => waits_subqueue h⟩

theorem claimsLe_withoutGrant : (r.withoutGrant a).ClaimsLe r := ⟨fun _ => load_withoutGrant, fun _ => waits_withoutGrant⟩

theorem claimsLe_map {f : Holder → Holder} {k : WaitCell → WaitCell} (hfa : ∀ x, (f x).agent = x.agent)
    (hka : ∀ c, (k c).agent = c.agent) (hkm : ∀ c, (k c).mode = c.mode) :
    ({ r with holders := r.holders.map f, queue := r.queue.map k } : Record).ClaimsLe r :=
  ⟨fun _ => (load_map hfa hka hkm).le, fun _ => (waits_map hka).le⟩

theorem claimsLe_converted {p : Priority} {m : Term} : (r.converted a t p m).ClaimsLe r :=
  ⟨fun _ => (load_converted t p m).le, fun _ => le_rfl⟩

end

/-! ### The operations -/

section
variable {d : Device} {e : EntryIx} {r : Record}

/-- A FREE slot stays as it is. -/
theorem modifyEntry_free (h : d.entry e = none) (f : Record → Record) : d.modifyEntry e f = d := by
  have hs : (d.slot e).record = none := h
  have : ({ d.slot e with record := (d.slot e).record.map f } : Slot) = d.slot e := by
    rw [hs, Option.map_none, ← hs]
  rw [Device.modifyEntry, this, Device.setSlot, Device.slot, tset_tget]

/-- A record updated in place, to one that follows it, in agreement and with no more claims. -/
theorem steady_modifyEntry (d : Device) (e : EntryIx) {f : Record → Record}
    (hf : ∀ r, Record.Follows d.ticket r (f r)) (hl : ∀ r : Record, r.IsControlLease → (f r).IsControlLease)
    (ha : ∀ r, d.Consistent → d.entry e = some r → (f r).Agrees)
    (hs : ∀ r, d.Consistent → d.entry e = some r → Record.StaysSteered d r (f r))
    (hc : ∀ r, d.Consistent → d.entry e = some r → (f r).ClaimsLe r) : Steady d (d.modifyEntry e f) := by
  cases hr : d.entry e with
  | none => rw [modifyEntry_free hr]; exact .refl d
  | some r =>
    have h := Replaces.modifyEntry hr f
    exact ⟨h.keeps (hf r) fun _ => hl r, h.calm (fun h => ha r h hr) (fun h => hs r h hr) (fun h => hc r h hr)⟩

theorem steady_removeCell (d : Device) (e : EntryIx) (a : Agent) : Steady d (d.removeCell e a) :=
  steady_modifyEntry d e (f := (·.withoutCell a)) (fun _ => follows_withoutCell) (fun _ h => h.withoutCell a)
    (fun _ hc hr => (hc.at hr).agrees.withoutCell a) (fun _ _ _ => staysSteered_subqueue)
    fun _ _ _ => claimsLe_subqueue List.filter_sublist

/-- The end of a grant, where the entry is neither SWITCHING nor FAULTED. -/
theorem steady_endGrant (a : Agent) (hp : d.Consistent → ∀ r, d.entry e = some r → r.occupancy.Plain) :
    Steady d (d.endGrant e a) :=
  steady_modifyEntry d e (f := (·.withoutGrant a)) (fun _ => follows_withoutGrant) (fun _ h => h.withoutGrant a)
    (fun _ hc hr => (hc.at hr).agrees.withoutGrant a) (fun r hc hr => staysSteered_withoutGrant (hp hc r hr))
    fun _ _ _ => claimsLe_withoutGrant

/-- Holders and cells changed one by one, with agents, modes, tickets and priorities of cells kept. -/
theorem steady_mapEntry (d : Device) (e : EntryIx) {f : Record → Holder → Holder} (hft : ∀ r x, (f r x).ticket = x.ticket)
    (hfa : ∀ r x, (f r x).agent = x.agent) (hfm : ∀ r x, (f r x).mode = x.mode) :
    Steady d (d.modifyEntry e fun r => { r with holders := r.holders.map (f r) }) := by
  have hid : ∀ r : Record, ({ r with holders := r.holders.map (f r) } : Record) =
      { r with holders := r.holders.map (f r), queue := r.queue.map id } := fun r => by rw [List.map_id]
  simp only [hid]
  exact steady_modifyEntry d e (fun r => follows_map (hft r) (fun _ => rfl) fun _ => rfl)
    (fun r h => h.map (hfm r) fun _ => rfl)
    (fun r hc hr => (hc.at hr).agrees.map (hfa r) (hfm r) (fun _ => rfl) (fun _ => rfl) fun _ _ => .inl)
    (fun r _ _ => staysSteered_map (hfa r)) fun r _ _ => claimsLe_map (hfa r) (fun _ => rfl) fun _ => rfl

theorem steady_modifyHolder (d : Device) (e : EntryIx) (a : Agent) {f : Holder → Holder} (hft : ∀ x, (f x).ticket = x.ticket)
    (hfa : ∀ x, (f x).agent = x.agent) (hfm : ∀ x, (f x).mode = x.mode) : Steady d (d.modifyHolder e a f) :=
  steady_mapEntry d e (f := fun _ h => if h.agent = a then f h else h) (fun _ x => by split <;> simp [hft])
    (fun _ x => by split <;> simp [hfa]) (fun _ x => by split <;> simp [hfm])

@[simp] theorem agent_afterAsk (h : Holder) (p : YieldPolicy) (o : AskOutcome) : (h.afterAsk p o).agent = h.agent := by
  cases o <;> rfl
@[simp] theorem mode_afterAsk (h : Holder) (p : YieldPolicy) (o : AskOutcome) : (h.afterAsk p o).mode = h.mode := by
  cases o <;> rfl
@[simp] theorem ticket_afterAsk (h : Holder) (p : YieldPolicy) (o : AskOutcome) : (h.afterAsk p o).ticket = h.ticket := by
  cases o <;> rfl

theorem steady_evaluate (d : Device) (e : EntryIx) : Steady d (d.evaluate e) := by
  unfold Device.evaluate
  split
  · exact .refl d
  · next r hr =>
    refine .trans (steady_mapEntry d e ?_ ?_ ?_) (.foldl _ (fun d h => steady_tellAsk d e _ _) _ _)
    · exact fun _ _ => ticket_afterAsk ..
    · exact fun _ _ => agent_afterAsk ..
    · exact fun _ _ => mode_afterAsk ..

/-! ### Grants -/

/-- The holder record that a grant from a cell makes (R76). -/
def WaitCell.granted (c : WaitCell) (r : Record) (t : Ticket) : Holder :=
  { agent := c.agent, mode := if c.mode = .shared then .shared else .exclusive, ticket := t, priority := c.priority
    remaining := r.grantedTerm c.term }

/-- A record after a grant from a cell of its queue (R76). -/
def Record.grant (r : Record) (c : WaitCell) (t : Ticket) : Record := (r.withoutCell c.agent).withHolder (c.granted r t)

theorem replaces_newGrant (hr : d.entry e = some r) (a : Agent) (m : GrantMode) (p : Priority) (t : Term) :
    Replaces e r (r.withHolder { agent := a, mode := m, ticket := d.ticket, priority := p, remaining := t }) d
      (d.newGrant e a m p t) :=
  (Replaces.modifyEntry hr (·.withHolder _)).advance rfl

theorem replaces_grantCell (hr : d.entry e = some r) (c : WaitCell) :
    Replaces e r (r.grant c d.ticket) d (d.grantCell e c) := by
  have h := (((Replaces.modifyEntry hr (·.withoutCell c.agent)).modify_again (·.withHolder (c.granted r d.ticket))).advance rfl)
  unfold Device.grantCell
  rw [hr]
  exact h

theorem replaces_upgrade (hr : d.entry e = some r) (a : Agent) (p : Priority) (t : Term) :
    Replaces e r ((r.withoutCell a).converted a d.ticket p (r.grantedTerm t)) d ((d.removeCell e a).convertHolder e a p t) :=
  ((Replaces.modifyEntry hr (·.withoutCell a)).modify_again fun s => s.converted a d.ticket p (s.grantedTerm t)).advance rfl

theorem replaces_convertHolder (hr : d.entry e = some r) (a : Agent) (p : Priority) (t : Term) :
    Replaces e r (r.converted a d.ticket p (r.grantedTerm t)) d (d.convertHolder e a p t) :=
  (Replaces.modifyEntry hr fun s => s.converted a d.ticket p (s.grantedTerm t)).advance rfl

theorem holders_ne_nil_of_agents {a : Agent} (ha : r.holders.map (·.agent) = [a]) : r.holders ≠ [] := by
  rintro h; rw [h] at ha; cases ha

/-- A conversion to EXCLUSIVE of the only holder, its cell removed (R34, R71). -/
theorem Record.Agrees.upgrade {a : Agent} (hr : r.Agrees) (ha : r.holders.map (·.agent) = [a]) (t : Ticket) (p : Priority)
    (m : Term) : ((r.withoutCell a).converted a t p m).Agrees := (hr.withoutCell a).converted ha t p m

theorem steady_upgrade (hr : d.entry e = some r) {a : Agent} (ha : r.holders.map (·.agent) = [a]) (p : Priority) (t : Term) :
    Steady d ((d.removeCell e a).convertHolder e a p t) := by
  have h := replaces_upgrade hr a p t
  refine ⟨h.keeps (follows_withoutCell.trans follows_converted) fun _ hl => (hl.withoutCell a).converted .., ?_⟩
  refine h.calm (fun hc => (hc.at hr).agrees.upgrade ha _ _ _) (fun hc => ?_) fun _ => ?_
  · exact staysSteered_subqueue.trans (staysSteered_holders (r := r.withoutCell a)
      (show r.occupancy.Plain from hc.plain_of_held hr (holders_ne_nil_of_agents ha)) trivial (holders_converted_agent ..))
  · exact claimsLe_converted.trans (claimsLe_subqueue List.filter_sublist)

theorem steady_convertHolder (hr : d.entry e = some r) {a : Agent} (ha : r.holders.map (·.agent) = [a]) (p : Priority)
    (t : Term) : Steady d (d.convertHolder e a p t) := by
  have h := replaces_convertHolder hr a p t
  refine ⟨h.keeps follows_converted fun _ hl => hl.converted .., ?_⟩
  exact h.calm (fun hc => (hc.at hr).agrees.converted ha _ _ _)
    (fun hc => staysSteered_holders (hc.plain_of_held hr (holders_ne_nil_of_agents ha)) trivial (holders_converted_agent ..))
    fun _ => claimsLe_converted

/-- The cell may be granted by what holds the entry: an EXCLUSIVE one where nobody does and the group connects its agent, a
SHARED one where no grant is EXCLUSIVE (R72, R73). -/
structure Record.Grantable (d : Device) (r : Record) (c : WaitCell) : Prop where
  mem : c ∈ r.queue
  mode : c.mode ≠ .upgrade
  plain : r.occupancy.Plain
  exclusive : c.mode = .exclusive → r.holders = [] ∧ ∀ g, r.group = some g → (d.group g).select = .agent c.agent
  shared : c.mode = .shared → ∀ h ∈ r.holders, h.mode = .shared

theorem mode_granted_shared {c : WaitCell} {t : Ticket} (h : (c.granted r t).mode = .shared) : c.mode = .shared := by
  by_contra hc
  simp [WaitCell.granted, hc] at h

theorem waitedBy_withoutCell (r : Record) (a : Agent) : (r.withoutCell a).waitedBy a = false := by
  rw [waitedBy_eq_false]
  intro c hc
  simpa using (List.mem_filter.mp hc).2

/-- A cell that is no UPGRADE belongs to an agent that does not hold the entry (R62). -/
theorem Record.Agrees.not_held (hr : r.Agrees) {c : WaitCell} (hc : c ∈ r.queue) (hm : c.mode ≠ .upgrade) :
    r.heldBy c.agent = false := by
  cases hh : r.heldBy c.agent with
  | false => rfl
  | true => exact absurd ((hr.claims c hc).mp hh) hm

/-- A SHARED cell waits on an entry that allows sharing (R65), and such an entry has no group (R2). -/
theorem Record.Agrees.sharing_of_shared (hr : r.Agrees) {c : WaitCell} (hc : c ∈ r.queue) (hm : c.mode = .shared) :
    r.sharing = .sharedAllowed := by
  cases hs : r.sharing with
  | sharedAllowed => rfl
  | exclusiveOnly => have := (hr.exclusive hs).2 c hc; rw [hm] at this; cases this

theorem Record.Agrees.group_of_shared (hr : r.Agrees) (hs : r.sharing = .sharedAllowed) : r.group = none := by
  by_contra hg
  rw [hr.steered hg] at hs
  cases hs

theorem Record.Grantable.mode_exclusive {c : WaitCell} (h : Record.Grantable d r c) (hs : c.mode ≠ .shared) :
    c.mode = .exclusive := by
  cases hm : c.mode with
  | shared => exact absurd hm hs
  | upgrade => exact absurd hm h.mode
  | exclusive => rfl

theorem Record.Agrees.grant (hr : r.Agrees) {c : WaitCell} (h : Record.Grantable d r c) (t : Ticket) : (r.grant c t).Agrees := by
  refine (hr.withoutCell c.agent).withHolder (hr.not_held h.mem h.mode) (waitedBy_withoutCell ..) (fun hx => ?_) fun hx => ?_
  · by_cases hs : c.mode = .shared
    · simp [WaitCell.granted, hs] at hx
    · exact (h.exclusive (h.mode_exclusive hs)).1
  · have hs := mode_granted_shared hx
    exact ⟨h.shared hs, hr.sharing_of_shared h.mem hs⟩

theorem Record.IsControlLease.grant (hl : r.IsControlLease) {c : WaitCell} (hc : c ∈ r.queue) (t : Ticket) :
    (r.grant c t).IsControlLease :=
  (hl.withoutCell c.agent).withHolder (by simp [WaitCell.granted, hl.queue c hc])

theorem follows_grant {c : WaitCell} {t : Ticket} : Record.Follows t r (r.grant c t) :=
  follows_withoutCell.trans (follows_withHolder rfl)

theorem claimsLe_grant {c : WaitCell} (hc : c ∈ r.queue) (hm : c.mode ≠ .upgrade) {h : Holder} (ha : h.agent = c.agent) :
    ((r.withoutCell c.agent).withHolder h).ClaimsLe r :=
  ⟨fun _ => load_granted hc hm ha, fun _ => waits_withoutCell⟩

theorem calm_grantCell (hr : d.entry e = some r) {c : WaitCell} (h : Record.Grantable d r c) : Calm d (d.grantCell e c) := by
  refine (replaces_grantCell hr c).calm (fun hc => (hc.at hr).agrees.grant h _) (fun hc => ?_)
    fun _ => claimsLe_grant h.mem h.mode rfl
  refine staysSteered_subqueue.trans (staysSteered_withHolder (r := r.withoutCell c.agent) h.plain fun g hg => ?_)
  by_cases hs : c.mode = .shared
  · have := (hc.at hr).agrees.group_of_shared ((hc.at hr).agrees.sharing_of_shared h.mem hs)
    rw [show r.group = some g from hg] at this
    cases this
  · exact (h.exclusive (h.mode_exclusive hs)).2 g hg

theorem steady_grantQueued (hr : d.entry e = some r) {c : WaitCell} (h : Record.Grantable d r c) :
    Steady d (d.grantQueued e c) :=
  .trans ⟨(replaces_grantCell hr c).keeps follows_grant fun _ hl => hl.grant h.mem _, calm_grantCell hr h⟩ (steady_post ..)

theorem keepsNames_grantQueued (d : Device) (e : EntryIx) (c : WaitCell) : KeepsNames d (d.grantQueued e c) := by
  refine .trans ?_ (keeps_post ..).toKeepsNames
  cases hr : d.entry e with
  | none => rw [Device.grantCell, hr]; exact .refl d
  | some r => exact (replaces_grantCell hr c).keepsNames follows_grant

end

end Sys2Proof.Machine
end

section
/-!
PROOFS. Grants, switches and the grant decision (R70 to R76, R117, R118, R151): each is steady.
-/
namespace Sys2Proof.Machine

section
variable {d d' : Device} {e : EntryIx} {r r' : Record} {g : GroupIx}

/-! ### A grant that claims more (R29, R134) -/

theorem heldBy_withHolder {h : Holder} {b : Agent} (hb : r.heldBy b = false) (hn : h.agent ≠ b) :
    (r.withHolder h).heldBy b = false := by
  rw [heldBy_eq_false] at hb ⊢
  intro x hx
  rcases List.mem_append.mp hx with hx | hx
  · exact hb x hx
  · rw [List.mem_singleton.mp hx]; exact hn

/-- An agent below its hold quota has room for one claim more (R134). -/
theorem load_lt_of_belowHoldQuota {a : Agent} (h : d.belowHoldQuota a = true) :
    d.sumEntries (·.load a) < (d.agent a).holdQuota := by
  have := of_decide_eq_true h
  rwa [show d.sumEntries (·.load a) = d.holdCount a + d.nonUpgradeWaits a from sumEntries_add d _ _]

/-- A grant to an ONLINE agent that is below its hold quota. -/
theorem steady_newGrant (hr : d.entry e = some r) {a : Agent} {m : GrantMode} {p : Priority} {t : Term}
    (hm : e = 0 → r.IsControlLease → m = .exclusive)
    (ha : d.Consistent → (r.withHolder { agent := a, mode := m, ticket := d.ticket, priority := p, remaining := t }).Agrees)
    (hp : r.occupancy.Plain) (hs : d.Consistent → ∀ g, r.group = some g → (d.group g).select = .agent a)
    (ho : d.Online a) (hb : d.belowHoldQuota a = true) : Steady d (d.newGrant e a m p t) := by
  have h := replaces_newGrant hr a m p t
  refine ⟨h.keeps (follows_withHolder rfl) fun he hl => hl.withHolder (hm he hl), ?_⟩
  refine ⟨fun hc => h.consistent (ha hc) (staysSteered_withHolder hp (hs hc)) hc, fun _ => ?_,
    fun _ _ _ => h.waitlessOn fun _ hw => hw, fun _ b _ => ?_, fun _ _ _ => h.untoldOn⟩
  · refine h.quotasKept (fun b hq => ?_) fun b => le_trans (h.sum_mono waits_withHolder.le)
    have hle := h.sum_le (f := (·.load b)) load_withHolder.le
    by_cases hab : a = b
    · subst hab
      have := load_lt_of_belowHoldQuota hb
      rw [if_pos rfl] at hle
      omega
    · rw [if_neg hab, Nat.add_zero] at hle
      exact hle.trans hq
  · refine h.absentOn fun hn _ hh => heldBy_withHolder hh ?_
    rintro rfl
    exact hn ho

/-! ### The entry and its group written together -/

theorem group_unchanged_of_ne (hc : d.Consistent) (hr : d.entry e = some r) {x : GroupIx} (hx : r.group ≠ some x) {b : Binding}
    (hb : (d.group x).binding = some b) : b.entry ≠ e := fun he => hx (hc.group_of_binding hr hb he)

/-- A record and the group it names, written so that they agree. -/
theorem consistent_steer (hc : d.Consistent) (hr : d.entry e = some r) (hg : r.group = some g) (hg' : r'.group = some g)
    {x : GroupRec} (ha : r'.Agrees) (hw : r'.AgreesWith e x) (hu : x.state ≠ .unbound) :
    ((d.putRecord e r').setGroup g x).Consistent := by
  have hent : ∀ y, ((d.putRecord e r').setGroup g x).entry y = if e = y then some r' else d.entry y := fun y => entry_putRecord d e y r'
  have hgrp : ∀ y, ((d.putRecord e r').setGroup g x).group y = if g = y then x else d.group y :=
    fun y => Device.group_setGroup _ g y x
  refine consistent_of_local (e := e) hc (fun y hy => by rw [hent, if_neg (Ne.symm hy)]) (fun s hs => ?_) fun y => ?_
  · rw [hent, if_pos rfl] at hs
    cases hs
    refine ⟨ha, fun hn => absurd (hg'.symm.trans hn) (by simp), fun y hy => ?_⟩
    rw [hg'] at hy
    cases hy
    rw [hgrp, if_pos rfl]
    exact hw
  · by_cases hy : g = y
    · subst hy
      obtain ⟨b, hb, hbe⟩ := hw.bound
      refine .inr ⟨⟨?_, fun b' hb' => ?_⟩, fun b' hb' => ?_⟩
      · rw [hgrp, if_pos rfl, hb]
        exact iff_of_false (by simp) hu
      · rw [hgrp, if_pos rfl, hb] at hb'
        cases hb'
        exact ⟨r', by rw [hent, if_pos hbe.symm], hg'⟩
      · obtain ⟨b₀, hb₀, he₀⟩ := hc.binding hr hg
        rw [hb₀] at hb'
        cases hb'
        exact he₀
    · refine .inl ⟨by rw [hgrp, if_neg hy], fun b hb => group_unchanged_of_ne hc hr ?_ hb⟩
      rw [hg]
      exact fun h => hy (Option.some.inj h)

/-- A record replaced by one with no more claims, with a change of the groups under which records and groups agree: quotas
and roster look at the records alone. -/
theorem Replaces.calm_groups (h : Replaces e r r' d d') (hl : r'.ClaimsLe r) {d'' : Device} (hs : d''.slots = d'.slots)
    (hn : d''.notices = d'.notices) (ha : d''.agents = d'.agents) (hc : d.Consistent → d''.Consistent) : Calm d d'' where
  consistent := hc
  quotas _ hq := quotas_of_same hs (fun a => by rw [agent_of_agents ha]; exact ⟨rfl, rfl⟩)
    (h.quotasKept (fun a => le_trans (h.sum_mono (hl.load a))) (fun a => le_trans (h.sum_mono (hl.waits a))) hq)
  waitless _ a x hw := by
    have := h.waitlessOn (fun _ => hl.waitedBy) hw
    unfold Device.WaitlessOn at this ⊢
    rwa [agent_of_agents ha, entry_of_slots hs]
  absent _ a x hw hab := by
    have := h.absentOn (fun _ => hl.heldBy) hw hab
    unfold Device.AbsentOn at this ⊢
    rwa [agent_of_agents ha, entry_of_slots hs]
  untold _ a x hu := by
    have := h.untoldOn hu
    unfold Device.UntoldOn Device.notice at this ⊢
    rwa [agent_of_agents ha, hn]

/-- A record and the group it names, written so that they agree, with no more claims. -/
theorem calm_steer (hr : d.entry e = some r) (hg : r.group = some g) (hg' : r'.group = some g) {x : GroupRec}
    (ha : d.Consistent → r'.Agrees) (hw : d.Consistent → r'.AgreesWith e x) (hu : x.state ≠ .unbound)
    (hl : r'.ClaimsLe r) : Calm d ((d.putRecord e r').setGroup g x) :=
  have h : Replaces e r r' d (d.putRecord e r') := ⟨hr, rfl, .inl rfl⟩
  h.calm_groups hl rfl rfl rfl fun hc => consistent_steer hc hr hg hg' (ha hc) (hw hc) hu

/-- The same for what every operation keeps: the group goes on to be bound to the entry. -/
theorem keeps_steer (hr : d.entry e = some r) {x : GroupRec} (hf : Record.Follows d.ticket r r')
    (hl : e = 0 → r.IsControlLease → r'.IsControlLease)
    (hx : ∀ b, x.binding = some b → ∃ b', (d.group g).binding = some b' ∧ b'.entry = b.entry) :
    Keeps d ((d.putRecord e r').setGroup g x) :=
  have h : Replaces e r r' d (d.putRecord e r') := ⟨hr, rfl, .inl rfl⟩
  (h.keeps hf hl).trans (keeps_setGroup _ g hx)

/-! ### Switches (R117, R118) -/

/-- A record whose entry begins to switch (R117). -/
def Record.startingSwitch (r : Record) (t : SwitchTarget) : Record :=
  { r with occupancy := .switching t, queue := markTarget t r.queue }

/-- The flag that a switch to `t` gives the cell of its target (R59). -/
def flagged (t : SwitchTarget) (c : WaitCell) : WaitCell :=
  match t with
  | .home => c
  | .agent a => if c.agent = a then { c with target := true } else c

theorem markTarget_eq (t : SwitchTarget) (q : List WaitCell) : markTarget t q = q.map (flagged t) := by
  cases t with
  | home => exact (List.map_id' q).symm
  | agent a => rfl

@[simp] theorem agent_flagged (t : SwitchTarget) (c : WaitCell) : (flagged t c).agent = c.agent := by
  cases t with
  | home => rfl
  | agent a => simp only [flagged]; split <;> rfl

@[simp] theorem mode_flagged (t : SwitchTarget) (c : WaitCell) : (flagged t c).mode = c.mode := by
  cases t with
  | home => rfl
  | agent a => simp only [flagged]; split <;> rfl

@[simp] theorem priority_flagged (t : SwitchTarget) (c : WaitCell) : (flagged t c).priority = c.priority := by
  cases t with
  | home => rfl
  | agent a => simp only [flagged]; split <;> rfl

theorem target_flagged {t : SwitchTarget} {c : WaitCell} (h : (flagged t c).target = true) :
    c.target = true ∨ t = .agent c.agent := by
  cases t with
  | home => exact .inl h
  | agent a =>
    by_cases hc : c.agent = a
    · exact .inr (by rw [hc])
    · rw [flagged, if_neg hc] at h; exact .inl h

theorem startingSwitch_eq (r : Record) (t : SwitchTarget) : r.startingSwitch t =
    { { r with holders := r.holders.map id, queue := r.queue.map (flagged t) } with occupancy := .switching t } := by
  rw [Record.startingSwitch, markTarget_eq, List.map_id]

/-- The group of a switch just started (R117, R118). -/
def GroupRec.starting (x : GroupRec) (b : Binding) (t : SwitchTarget) : GroupRec :=
  if x.stdone then { x with state := .switching, phase := some .deferred }
  else { x with state := .switching, settleKnown := false, select := b.targetValue t, phase := some (.requesting b.timeout) }

theorem binding_starting (x : GroupRec) (b : Binding) (t : SwitchTarget) : (x.starting b t).binding = x.binding := by
  unfold GroupRec.starting; split <;> rfl

theorem state_starting (x : GroupRec) (b : Binding) (t : SwitchTarget) : (x.starting b t).state = .switching := by
  unfold GroupRec.starting; split <;> rfl

theorem startSwitch_eq_starting {b : Binding} (hb : (d.group g).binding = some b) (hr : d.entry e = some r) (t : SwitchTarget) :
    d.startSwitch e g t = (d.putRecord e (r.startingSwitch t)).setGroup g ((d.group g).starting b t) :=
  startSwitch_eq hb hr t

theorem agreesWith_starting {x : GroupRec} {b : Binding} (hb : x.binding = some b) (he : b.entry = e) (hh : r.holders = [])
    (t : SwitchTarget) : (r.startingSwitch t).AgreesWith e (x.starting b t) where
  bound := ⟨b, (binding_starting x b t).trans hb, he⟩
  switching := iff_of_true rfl (state_starting x b t)
  faulted := iff_of_false (by simp [Record.startingSwitch]) (by simp [state_starting])
  selects h hm := by rw [show (r.startingSwitch t).holders = r.holders from rfl, hh] at hm; cases hm
  driven b' t' n hb' ht hn := by
    rw [binding_starting, hb] at hb'
    cases hb'
    cases ht
    unfold GroupRec.starting at hn ⊢
    split at hn
    · cases hn
    · next hs => rw [if_neg hs]

/-- A switch starts on an entry with no holders; the cell of its target agent, if any, is EXCLUSIVE. -/
theorem steady_startSwitch (hr : d.entry e = some r) (hg : r.group = some g) (hh : d.Consistent → r.holders = [])
    {t : SwitchTarget} (ht : d.Consistent → ∀ c ∈ r.queue, t = .agent c.agent → c.mode = .exclusive) : Steady d (d.startSwitch e g t) := by
  cases hb : (d.group g).binding with
  | none => rw [Device.startSwitch, hb]; exact .refl d
  | some b =>
    rw [startSwitch_eq_starting hb hr]
    have hcl := claimsLe_map (r := r) (f := id) (k := flagged t) (fun _ => rfl) (agent_flagged t) (mode_flagged t)
    refine ⟨keeps_steer hr ?_ (fun _ hl => ?_) fun b' hb' => ⟨b', ?_, rfl⟩, calm_steer (r' := r.startingSwitch t) hr hg hg (fun hc => ?_) (fun hc => ?_) ?_ ?_⟩
    · rw [startingSwitch_eq]
      exact (follows_map (fun _ => rfl) (mode_flagged t) (priority_flagged t)).trans follows_occupancy
    · rw [hl.group] at hg; cases hg
    · rwa [binding_starting] at hb'
    · rw [startingSwitch_eq]
      refine Record.Agrees.vacant ((hc.at hr).agrees.map (fun _ => rfl) (fun _ => rfl) (agent_flagged t) (mode_flagged t) ?_)
        (by simp [hh hc]) rfl
      exact fun c hcq hct => (target_flagged hct).imp_right fun h => ht hc c hcq h
    · obtain ⟨b', hb', he⟩ := hc.binding hr hg
      rw [hb] at hb'
      cases hb'
      exact agreesWith_starting hb he (hh hc) t
    · simp [state_starting]
    · rw [startingSwitch_eq]
      exact ⟨hcl.load, hcl.waits⟩

end

end Sys2Proof.Machine
end

section
/-!
PROOFS. The grant decision, drain completion and the hand-on of an entry (R37, R70 to R77, R104 to R106, R151): each is
steady.
-/
namespace Sys2Proof.Machine

section
variable {d d' : Device} {e : EntryIx} {r r' : Record} {g : GroupIx}

/-! ### The grant decision -/

@[simp] theorem entry_post (d : Device) (e x : EntryIx) (a : Agent) (k : NoticeKind) :
    (d.post e a k).entry x = d.entry x := entry_of_slots (post_slots ..) x

theorem steady_decideIdle (hr : d.entry e = some r) (hd : r.decidable = true) (hq : r.queue = []) :
    Steady d (d.decideIdle e r) := by
  unfold Device.decideIdle
  split
  · exact .refl d
  · next hh =>
    have hh : r.holders = [] := not_not.mp hh
    split
    · next g hg =>
      split
      · exact steady_startSwitch hr hg (fun _ => hh) fun _ c hc => by rw [hq] at hc; cases hc
      · exact .refl d
    · next hg =>
      split
      · next hb =>
        obtain ⟨he, hboot⟩ := Bool.and_eq_true_iff.mp hb
        obtain ⟨ho, hquota⟩ := Bool.and_eq_true_iff.mp hboot
        have he : e = 0 := of_decide_eq_true he
        subst he
        refine .trans (steady_newGrant hr (fun _ _ => rfl) (fun hc => ?_) (plain_of_decidable hd) ?_ (of_decide_eq_true ho) hquota)
          (steady_post ..)
        · exact (hc.at hr).agrees.withHolder (by simp [heldBy_eq_false, hh]) (by simp [waitedBy_eq_false, hq]) (fun _ => hh)
            fun h => by cases h
        · intro _ g hg'; rw [hg] at hg'; cases hg'
      · exact .refl d

theorem steady_decideUpgrade (hr : d.entry e = some r) (c : WaitCell) : Steady d (d.decideUpgrade e r c) := by
  unfold Device.decideUpgrade
  split
  · next ha => exact (steady_upgrade hr ha c.priority c.term).trans (steady_post ..)
  · exact .refl d

/-- The only cell of an agent in a queue is the one that is there (R62). -/
theorem Record.Agrees.cell_unique (hr : r.Agrees) {c c' : WaitCell} (hc : c ∈ r.queue) (hc' : c' ∈ r.queue)
    (ha : c'.agent = c.agent) : c' = c := List.inj_on_of_nodup_map hr.queueOnce hc' hc ha

theorem steady_decideExclusive (hr : d.entry e = some r) (hd : r.decidable = true) {c : WaitCell} (hc : c ∈ r.queue)
    (hm : c.mode = .exclusive) : Steady d (d.decideExclusive e r c) := by
  unfold Device.decideExclusive
  split
  · exact .refl d
  · next hh =>
    have hh : r.holders = [] := not_not.mp hh
    have grantable : (∀ g, r.group = some g → (d.group g).select = .agent c.agent) → Record.Grantable d r c := fun hs =>
      ⟨hc, by simp [hm], plain_of_decidable hd, fun _ => ⟨hh, hs⟩, fun h => by rw [hm] at h; cases h⟩
    split
    · next hg => exact steady_grantQueued hr (grantable fun g hg' => by rw [hg] at hg'; cases hg')
    · next g hg =>
      split
      · next hcon =>
        refine steady_grantQueued hr (grantable fun g' hg' => ?_)
        rw [hg] at hg'
        cases hg'
        exact eq_of_beq (Bool.and_eq_true_iff.mp hcon).1
      · refine steady_startSwitch hr hg (fun _ => hh) fun hcons c' hc' hca => ?_
        rw [(hcons.at hr).agrees.cell_unique hc hc' (SwitchTarget.agent.inj hca).symm, hm]

/-- SHARED cells of the queue granted one after another: each is still there at its turn, and no grant is EXCLUSIVE. -/
theorem calm_shares (l : List WaitCell) {d : Device} {r : Record} (hr : d.entry e = some r)
    (hl : ∀ c ∈ l, c ∈ r.queue ∧ c.mode = .shared) (hn : (l.map (·.agent)).Nodup) (hp : r.occupancy.Plain)
    (hh : ∀ h ∈ r.holders, h.mode = .shared) : Calm d (l.foldl (fun d c => d.grantQueued e c) d) := by
  induction l generalizing d r with
  | nil => exact .refl d
  | cons c l ih =>
    obtain ⟨hc, hm⟩ := hl c (by simp)
    obtain ⟨hcl, hn⟩ := List.nodup_cons.mp hn
    have hg : Record.Grantable d r c := ⟨hc, by simp [hm], hp, fun h => absurd (hm.symm.trans h) (by decide), fun _ => hh⟩
    have hnext : (d.grantQueued e c).entry e = some (r.grant c d.ticket) := by
      rw [Device.grantQueued, entry_post]; exact (replaces_grantCell hr c).entry_same
    refine (steady_grantQueued hr hg).toCalm.trans (ih hnext (fun x hx => ?_) hn (plain_occupancyOf _) fun h hmem => ?_)
    · obtain ⟨hxq, hxm⟩ := hl x (by simp [hx])
      refine ⟨List.mem_filter.mpr ⟨hxq, ?_⟩, hxm⟩
      simp only [decide_eq_true_eq]
      intro ha
      exact hcl (List.mem_map.mpr ⟨x, hx, ha⟩)
    · rcases List.mem_append.mp hmem with hmem | hmem
      · exact hh h hmem
      · rw [List.mem_singleton.mp hmem]; simp [WaitCell.granted, hm]

/-- Outside entry 0 a grant cannot touch the control lease. -/
theorem keeps_grantQueued_ne (he : e ≠ 0) (d : Device) (c : WaitCell) : Keeps d (d.grantQueued e c) := by
  refine .trans ?_ (keeps_post ..)
  cases hr : d.entry e with
  | none => rw [Device.grantCell, hr]; exact .refl d
  | some r => exact (replaces_grantCell hr c).keeps follows_grant fun h => absurd h he

theorem mem_takeWhile_shared {c : WaitCell} {q : List WaitCell} (h : c ∈ q.takeWhile fun c => c.mode = .shared) :
    c ∈ q ∧ c.mode = .shared :=
  ⟨(List.takeWhile_prefix _).subset h, by simpa using List.mem_takeWhile_imp h⟩

theorem mode_shared_of_not_any {hs : List Holder} (h : ¬ (hs.any fun x => x.mode = .exclusive) = true) :
    ∀ x ∈ hs, x.mode = .shared := by
  intro x hx
  cases hm : x.mode with
  | shared => rfl
  | exclusive => exact absurd (List.any_eq_true.mpr ⟨x, hx, by simp [hm]⟩) h

theorem steady_decideShared (hr : d.entry e = some r) (hd : r.decidable = true) : Steady d (d.decideShared e r) := by
  unfold Device.decideShared
  split
  · exact .refl d
  · next hx =>
    have hh := mode_shared_of_not_any hx
    refine ⟨⟨.foldl _ (fun d c => keepsNames_grantQueued d e c) _ _, fun hk => ?_⟩, .of_consistent fun hc => ?_⟩
    · by_cases he : e = 0
      · -- nobody waits SHARED for the control lease (R5)
        subst he
        obtain ⟨s, hs, hl⟩ := hk.entry
        rw [hr] at hs
        cases hs
        have hnil : (r.queue.takeWhile fun c => c.mode = .shared) = [] :=
          List.eq_nil_iff_forall_not_mem.mpr fun c hm => by
            obtain ⟨hq, hm⟩ := mem_takeWhile_shared hm
            rw [hl.queue c hq] at hm
            cases hm
        rw [hnil]
        exact hk
      · exact (Keeps.foldl _ (fun d c => keeps_grantQueued_ne he d c) _ d).control hk
    · refine calm_shares _ hr (fun c hc' => mem_takeWhile_shared hc') ?_ (plain_of_decidable hd) hh
      exact (hc.at hr).agrees.queueOnce.sublist ((List.takeWhile_sublist _).map _)

theorem steady_grantDecision (d : Device) (e : EntryIx) : Steady d (d.grantDecision e) := by
  unfold Device.grantDecision
  split
  · exact .refl d
  · next r hr =>
    split
    · next hd =>
      split
      · next hq => exact steady_decideIdle hr hd hq
      · next c q hq =>
        have hc : c ∈ r.queue := by rw [hq]; exact List.mem_cons_self
        split
        · exact steady_decideUpgrade hr c
        · next hm => exact steady_decideExclusive hr hd hc hm
        · exact steady_decideShared hr hd
    · exact .refl d

/-! ### Drain completion -/

theorem nextGeneration_ne_zero (x : Generation) : nextGeneration x ≠ 0 := by
  unfold nextGeneration
  split
  · decide
  · next hf => intro h0; exact hf (by have := congrArg (· - 1) h0; simpa using this)

/-- Slot `e` made FREE with the generation `x` (R105). -/
def Device.freed (d : Device) (e : EntryIx) (x : Generation) : Device := d.setSlot e { generation := x, record := none }

theorem entry_freed (d : Device) (e y : EntryIx) (x : Generation) :
    (d.freed e x).entry y = if e = y then none else d.entry y := by
  unfold Device.entry Device.freed
  rw [Device.slot_setSlot]
  split <;> rfl

theorem entry_of_freed {x : Generation} {y : EntryIx} {s : Record} (h : (d.freed e x).entry y = some s) :
    d.entry y = some s := by
  rw [entry_freed] at h
  split at h
  · cases h
  · exact h

theorem sumEntries_freed_le (d : Device) (e : EntryIx) (x : Generation) (f : Record → Nat) :
    (d.freed e x).sumEntries f ≤ d.sumEntries f :=
  sumEntries_le fun y => by
    rw [entry_freed]
    split
    · exact Nat.zero_le _
    · exact le_rfl

theorem generation_freed_ne_zero {x : Generation} (hx : x ≠ 0) (h : d.GenerationsNonzero) : (d.freed e x).GenerationsNonzero := by
  intro y
  unfold Device.freed
  rw [Device.slot_setSlot]
  split
  · exact hx
  · exact h y

/-- A slot made FREE keeps names, pool and queues; the control lease is never RETIRING (R5). -/
theorem keeps_freed (hr : d.entry e = some r) (hl : r.lifecycle ≠ .live) :
    Keeps d (d.freed e (nextGeneration (d.slot e).generation)) where
  names h :=
    { tickets := ⟨h.tickets.counter, fun y s hs => h.tickets.issued y s (entry_of_freed hs)⟩
      generations := generation_freed_ne_zero (nextGeneration_ne_zero _) h.generations
      keys := fun y y' s s' hs hs' => h.keys y y' s s' (entry_of_freed hs) (entry_of_freed hs')
      notices := h.notices }
  pool := le_trans (sumEntries_freed_le ..)
  queues h y s hs := h y s (entry_of_freed hs)
  control h := by
    obtain ⟨s, hs, hlease⟩ := h.entry
    have he : e ≠ 0 := by
      rintro rfl
      rw [hr] at hs
      cases hs
      exact hl hlease.lifecycle
    refine ⟨⟨s, by rw [entry_freed, if_neg he]; exact hs, hlease⟩, ?_, h.unsteered⟩
    unfold Device.freed
    rw [Device.slot_setSlot, if_neg he]
    exact h.generation

/-- The entry's group unbound and its slot made FREE leave the other entries and groups in agreement. -/
theorem consistent_unbind_freed (hc : d.Consistent) (hr : d.entry e = some r) (x : Generation) :
    ((d.unbindGroup r.group).freed e x).Consistent := by
  have hent : ∀ y, ((d.unbindGroup r.group).freed e x).entry y = if e = y then none else d.entry y := fun y => by
    rw [entry_freed, entry_unbindGroup]
  refine consistent_of_local (e := e) hc (fun y hy => by rw [hent, if_neg (Ne.symm hy)])
    (fun s hs => by rw [hent, if_pos rfl] at hs; cases hs) fun y => ?_
  by_cases hy : r.group = some y
  · have hgy : ((d.unbindGroup r.group).freed e x).group y = (d.group y).unbind := by
      rw [hy]
      exact (Device.group_setGroup _ y y _).trans (if_pos rfl)
    refine .inr ⟨⟨by rw [hgy]; exact iff_of_true rfl rfl, fun b hb => by rw [hgy] at hb; cases hb⟩, fun b hb => ?_⟩
    obtain ⟨b', hb', he⟩ := hc.binding hr hy
    rw [hb] at hb'
    cases hb'
    exact he
  · exact .inl ⟨group_unbindGroup_ne hy, fun b => group_unchanged_of_ne hc hr hy⟩

theorem steady_keepRetireDone (d : Device) (e : EntryIx) : Steady d (d.keepRetireDone e) := by
  refine ⟨keeps_of_notices rfl rfl rfl fun x a h => ?_, calm_of_notices rfl rfl rfl fun a _ x h => ?_⟩
  · rw [notice_keepRetireDone]
    split
    · next hx => rw [hx]; exact stamped_keepRetireDone h
    · exact h
  · rw [notice_keepRetireDone]
    split
    · next hx => rw [hx, h]; rfl
    · exact h

theorem steady_drain (hr : d.entry e = some r) (hl : r.lifecycle ≠ .live) (q : Agent) : Steady d (d.drain e r q) := by
  have hslots : (d.unbindGroup r.group).slots = d.slots := by rw [unbindGroup_eq]
  have hslot : (d.unbindGroup r.group).slot e = d.slot e := by unfold Device.slot; rw [hslots]
  have hent : ∀ {x y s}, ((d.unbindGroup r.group).freed e x).entry y = some s → d.entry y = some s := fun h => by
    have := entry_of_freed h
    rwa [entry_unbindGroup] at this
  have hag : ∀ {x} a, ((d.unbindGroup r.group).freed e x).agent a = d.agent a := fun a =>
    agent_of_agents (unbindGroup_agents d r.group) a
  have hk : Keeps d ((d.unbindGroup r.group).freed e (nextGeneration (d.slot e).generation)) := by
    have := keeps_freed (d := d.unbindGroup r.group) (by rw [entry_unbindGroup]; exact hr) hl
    rw [hslot] at this
    exact (keeps_unbindGroup d r.group).trans this
  have hcalm : Calm d ((d.unbindGroup r.group).freed e (nextGeneration (d.slot e).generation)) :=
    { consistent := fun hc => consistent_unbind_freed hc hr _
      quotas := fun _ h => by
        rw [quotasKept_iff] at h ⊢
        intro a
        rw [hag]
        have hle : ∀ f x, ((d.unbindGroup r.group).freed e x).sumEntries f ≤ d.sumEntries f := fun f x =>
          (sumEntries_freed_le _ e x f).trans (sumEntries_of_slots hslots f).le
        exact ⟨(hle _ _).trans (h a).1, (hle _ _).trans (h a).2⟩
      waitless := fun _ a y h hst s hs => h ((hag a) ▸ hst) s (hent hs)
      absent := fun _ a y _ h hst s hs => h ((hag a) ▸ hst) s (hent hs)
      untold := fun _ a y h hst => (notice_unbindGroup ..).trans (h ((hag a) ▸ hst)) }
  exact (Steady.mk hk hcalm).trans ((steady_keepRetireDone _ e).trans (steady_postGen ..))

theorem steady_checkDrain (d : Device) (e : EntryIx) : Steady d (d.checkDrain e) := by
  unfold Device.checkDrain
  split
  · exact .refl d
  · next r hr =>
    split
    · exact .refl d
    · next hl =>
      split
      · exact steady_drain hr (by simp [hl]) _
      · exact .refl d

/-! ### Hand-on and revocation -/

theorem steady_handOn (d : Device) (e : EntryIx) : Steady d (d.handOn e) :=
  ((steady_grantDecision d e).trans (steady_checkDrain _ e)).trans (steady_evaluate _ e)

/-- A grant of an agent that holds the entry ends. -/
theorem steady_endGrant_held {a : Agent} (hr : d.entry e = some r) (hh : r.heldBy a = true) : Steady d (d.endGrant e a) :=
  steady_endGrant a fun hc s hs => by
    rw [hr] at hs
    cases hs
    refine hc.plain_of_held hr fun h => ?_
    rw [heldBy_iff, h] at hh
    cases hh

theorem steady_revoke {a : Agent} (hr : d.entry e = some r) (hh : r.heldBy a = true) : Steady d (d.revoke e a) :=
  ((steady_endGrant_held hr hh).trans (steady_post ..)).trans (steady_handOn ..)

end

end Sys2Proof.Machine
end

section
/-!
PROOFS. Departures (R85, R138, R139): what one does to an entry, and what is left of the departing agents when it is done.
-/
namespace Sys2Proof.Machine

/-! ### The reach of an operation that may complete a command -/

/-- From `d` to `d'` at most the slot `e`, the group that steers it, notices, channels and the ticket counter have
changed. -/
structure Reaches (e : EntryIx) (d d' : Device) : Prop where
  slots : ∀ x, x ≠ e → d'.slot x = d.slot x
  groups : ∀ g, (∀ r, d.entry e = some r → r.group ≠ some g) → d'.group g = d.group g
  steered : ∀ r', d'.entry e = some r' → ∃ r, d.entry e = some r ∧ r'.group = r.group
  agents : d'.agents = d.agents
  boot : d'.boot = d.boot
  config : d'.config = d.config
  issued : d'.issued = d.issued
  cmdReset : d'.cmdReset = d.cmdReset
  recorded : d'.recorded = d.recorded
  reclaimLeft : d'.reclaimLeft = d.reclaimLeft

theorem OnlyEntry.reaches {e : EntryIx} {d d' : Device} (h : OnlyEntry e d d') : Reaches e d d' :=
  ⟨h.slots, h.groups, h.steered, h.agents, h.boot, h.config, h.issued, h.cmdReset, h.recorded, h.reclaimLeft⟩

namespace Reaches

theorem refl (e : EntryIx) (d : Device) : Reaches e d d := (OnlyEntry.refl e d).reaches

theorem trans {e : EntryIx} {d d' d'' : Device} (h : Reaches e d d') (h' : Reaches e d' d'') : Reaches e d d'' where
  slots x hx := (h'.slots x hx).trans (h.slots x hx)
  groups g hg := by
    refine (h'.groups g fun r hr => ?_).trans (h.groups g hg)
    obtain ⟨r₀, hr₀, hgr⟩ := h.steered r hr
    rw [hgr]; exact hg r₀ hr₀
  steered r hr := by
    obtain ⟨r₁, h₁, g₁⟩ := h'.steered r hr
    obtain ⟨r₀, h₀, g₀⟩ := h.steered r₁ h₁
    exact ⟨r₀, h₀, g₁.trans g₀⟩
  agents := h'.agents.trans h.agents
  boot := h'.boot.trans h.boot
  config := h'.config.trans h.config
  issued := h'.issued.trans h.issued
  cmdReset := h'.cmdReset.trans h.cmdReset
  recorded := h'.recorded.trans h.recorded
  reclaimLeft := h'.reclaimLeft.trans h.reclaimLeft

theorem foldl {α : Type} {e : EntryIx} (f : Device → α → Device) (hf : ∀ d x, Reaches e d (f d x)) (l : List α) (d : Device) :
    Reaches e d (l.foldl f d) := by
  induction l generalizing d with
  | nil => exact refl e d
  | cons x l ih => exact (hf d x).trans (ih _)

theorem entry {e : EntryIx} {d d' : Device} (h : Reaches e d d') {x : EntryIx} (hx : x ≠ e) : d'.entry x = d.entry x := by
  unfold Device.entry; rw [h.slots x hx]

end Reaches

theorem reaches_finish (e : EntryIx) (d : Device) (a : Agent) (c : Cmd) (r : Results) : Reaches e d (d.finish a c r) :=
  { Reaches.refl e d with }

/-! ### One entry -/

/-- The device with the IN_FLIGHT REQUEST of `a` on entry `e`, if there is one, completed ABORTED (R138). -/
def Device.abortFlight (d : Device) (e : EntryIx) (a : Agent) (p : Priority) : Device :=
  if d.inFlightOn a e then d.finish a .request { result := .aborted, priority := some p } else d

theorem reaches_abortFlight (d : Device) (e : EntryIx) (a : Agent) (p : Priority) : Reaches e d (d.abortFlight e a p) := by
  unfold Device.abortFlight
  split
  · exact reaches_finish ..
  · exact .refl e d

theorem steady_abortFlight (d : Device) (e : EntryIx) (a : Agent) (p : Priority) : Steady d (d.abortFlight e a p) := by
  unfold Device.abortFlight
  split
  · exact steady_finish ..
  · exact .refl d

/-- An agent that does not wait on the entry leaves nothing behind there; the cell of one that does is removed. -/
theorem departWait_cases (d : Device) (e : EntryIx) (a : Agent) :
    (d.departWait e a = d ∧ ∀ r, d.entry e = some r → r.waitedBy a = false) ∨
    ∃ r c, d.entry e = some r ∧ r.cell a = some c ∧
      d.departWait e a = ((d.abortFlight e a c.priority).removeCell e a).grantDecision e := by
  unfold Device.departWait
  cases hr : d.entry e with
  | none => exact .inl ⟨rfl, fun _ h => by cases h⟩
  | some r =>
    cases hc : r.cell a with
    | none =>
      refine .inl ⟨by simp [hc], fun s hs => ?_⟩
      cases hs
      simp [Record.waitedBy, hc]
    | some c => exact .inr ⟨r, c, rfl, hc, by simp [hc, Device.abortFlight]⟩

/-- An agent that does not hold the entry leaves nothing behind there; the grant of one that does ends. -/
theorem departHold_cases (d : Device) (e : EntryIx) (a : Agent) :
    (d.departHold e a = d ∧ ∀ r, d.entry e = some r → r.heldBy a = false) ∨
    ∃ r, d.entry e = some r ∧ r.heldBy a = true ∧ d.departHold e a = ((d.endGrant e a).grantDecision e).checkDrain e := by
  unfold Device.departHold
  cases hr : d.entry e with
  | none => exact .inl ⟨rfl, fun _ h => by cases h⟩
  | some r =>
    cases hh : r.heldBy a with
    | false => exact .inl ⟨by simp [hh], fun s hs => by cases hs; exact hh⟩
    | true => exact .inr ⟨r, rfl, hh, by simp [hh]⟩

theorem steady_departWait (d : Device) (e : EntryIx) (a : Agent) : Steady d (d.departWait e a) := by
  rcases departWait_cases d e a with ⟨h, -⟩ | ⟨r, c, -, -, h⟩ <;> rw [h]
  · exact .refl d
  · exact ((steady_abortFlight ..).trans (steady_removeCell ..)).trans (steady_grantDecision ..)

theorem steady_departHold (d : Device) (e : EntryIx) (a : Agent) : Steady d (d.departHold e a) := by
  rcases departHold_cases d e a with ⟨h, -⟩ | ⟨r, hr, hh, h⟩ <;> rw [h]
  · exact .refl d
  · exact ((steady_endGrant_held hr hh).trans (steady_grantDecision ..)).trans (steady_checkDrain ..)

theorem steady_departEntry (as : List Agent) (d : Device) (e : EntryIx) : Steady d (d.departEntry as e) := by
  unfold Device.departEntry
  split
  · exact ((Steady.foldl _ (fun d a => steady_departWait d e a) _ d).trans
      (.foldl _ (fun d a => steady_departHold d e a) _ _)).trans (steady_evaluate ..)
  · exact .refl d

theorem reaches_departWait (d : Device) (e : EntryIx) (a : Agent) : Reaches e d (d.departWait e a) := by
  rcases departWait_cases d e a with ⟨h, -⟩ | ⟨r, c, -, -, h⟩ <;> rw [h]
  · exact .refl e d
  · exact (reaches_abortFlight ..).trans ((onlyEntry_removeCell ..).trans (onlyEntry_grantDecision ..)).reaches

theorem reaches_departHold (d : Device) (e : EntryIx) (a : Agent) : Reaches e d (d.departHold e a) := by
  rcases departHold_cases d e a with ⟨h, -⟩ | ⟨r, hr, hh, h⟩ <;> rw [h]
  · exact .refl e d
  · exact (((onlyEntry_endGrant ..).trans (onlyEntry_grantDecision ..)).trans (onlyEntry_checkDrain ..)).reaches

theorem reaches_departEntry (as : List Agent) (d : Device) (e : EntryIx) : Reaches e d (d.departEntry as e) := by
  unfold Device.departEntry
  split
  · exact ((Reaches.foldl _ (fun d a => reaches_departWait d e a) _ d).trans
      (.foldl _ (fun d a => reaches_departHold d e a) _ _)).trans (onlyEntry_evaluate ..).reaches
  · exact .refl e d

/-- A fold of calm operations, each of which brings about `P` for its own element where `Q` holds of it, brings about `P` for
every element. -/
theorem foldl_reaches {α : Type} {f : Device → α → Device} (hf : ∀ d x, Calm d (f d x)) {P Q : Device → α → Prop}
    (hP : ∀ d x, d.Consistent → Q d x → P (f d x) x) (hk : ∀ d d' x, Calm d d' → d.Consistent → P d x → P d' x)
    (hQ : ∀ d d' x, Calm d d' → d.Consistent → Q d x → Q d' x) (l : List α) {d : Device} (hc : d.Consistent)
    (hq : ∀ x ∈ l, Q d x) : ∀ x ∈ l, P (l.foldl f d) x := by
  have keep : ∀ (l : List α) {d : Device} (x : α), d.Consistent → P d x → P (l.foldl f d) x := by
    intro l
    induction l with
    | nil => exact fun _ _ h => h
    | cons y l ih => exact fun x hc h => ih x ((hf _ y).consistent hc) (hk _ _ x (hf _ y) hc h)
  induction l generalizing d with
  | nil => exact fun x hx => by cases hx
  | cons y l ih =>
    intro x hx
    rcases List.mem_cons.mp hx with rfl | hx
    · exact keep l x ((hf d x).consistent hc) (hP d x hc (hq x (by simp)))
    · exact ih ((hf d y).consistent hc) (fun z hz => hQ _ _ z (hf d y) hc (hq z (by simp [hz]))) x hx

section
variable {d : Device} {e : EntryIx} {a : Agent} {as : List Agent}

theorem waitlessOn_departWait (hc : d.Consistent) : (d.departWait e a).WaitlessOn a e := by
  rcases departWait_cases d e a with ⟨h, hn⟩ | ⟨r, c, hr, -, h⟩ <;> rw [h]
  · exact fun _ => hn
  · have hcons := ((steady_abortFlight d e a c.priority).trans (steady_removeCell _ e a)).consistent hc
    refine (steady_grantDecision _ e).waitless hcons a e fun _ s hs => ?_
    rw [Device.removeCell, Device.entry_modifyEntry, if_pos rfl] at hs
    obtain ⟨r₀, -, rfl⟩ := Option.map_eq_some_iff.mp hs
    exact waitedBy_withoutCell r₀ a

theorem heldBy_withoutGrant (r : Record) (a : Agent) : (r.withoutGrant a).heldBy a = false := by
  rw [heldBy_eq_false]
  intro h hh
  simpa using (List.mem_filter.mp hh).2

theorem absentOn_departHold (hc : d.Consistent) (hw : d.WaitlessOn a e) : (d.departHold e a).AbsentOn a e := by
  rcases departHold_cases d e a with ⟨h, hn⟩ | ⟨r, hr, hh, h⟩ <;> rw [h]
  · exact fun _ => hn
  · have hs := steady_endGrant_held hr hh
    refine ((steady_grantDecision _ e).trans (steady_checkDrain _ e)).absent (hs.consistent hc) a e
      (hs.waitless hc a e hw) fun _ s hs => ?_
    rw [Device.endGrant, Device.entry_modifyEntry, if_pos rfl] at hs
    obtain ⟨r₀, -, rfl⟩ := Option.map_eq_some_iff.mp hs
    exact heldBy_withoutGrant r₀ a

/-- The departing agents neither wait on the entry nor hold it when their departure leaves it. -/
theorem gone_departEntry (hc : d.Consistent) (ha : a ∈ as) :
    (d.departEntry as e).WaitlessOn a e ∧ (d.departEntry as e).AbsentOn a e := by
  unfold Device.departEntry
  split
  · have hw := foldl_reaches (P := fun d a => d.WaitlessOn a e) (Q := fun _ _ => True)
      (fun d a => (steady_departWait d e a).toCalm) (fun _ _ h _ => waitlessOn_departWait h)
      (fun _ _ a h hc => h.waitless hc a e) (fun _ _ _ _ _ => id) as hc fun _ _ => trivial
    have hc₁ := (Steady.foldl _ (fun d a => steady_departWait d e a) as d).consistent hc
    have hs₂ := Steady.foldl _ (fun d a => steady_departHold d e a) as (as.foldl (fun d a => d.departWait e a) d)
    have hg := foldl_reaches (P := fun d a => d.WaitlessOn a e ∧ d.AbsentOn a e) (Q := fun d a => d.WaitlessOn a e)
      (fun d a => (steady_departHold d e a).toCalm)
      (fun d a h hw => ⟨(steady_departHold d e a).waitless h a e hw, absentOn_departHold h hw⟩)
      (fun _ _ a h hc hp => ⟨h.waitless hc a e hp.1, h.absent hc a e hp.1 hp.2⟩)
      (fun _ _ a h hc => h.waitless hc a e) as hc₁ hw a ha
    have he := steady_evaluate (as.foldl (fun d a => d.departHold e a) (as.foldl (fun d a => d.departWait e a) d)) e
    have hc₂ := hs₂.consistent hc₁
    exact ⟨he.waitless hc₂ a e hg.1, he.absent hc₂ a e hg.1 hg.2⟩
  · next hn =>
    have hcon : d.concerns e a = false := by
      cases h : d.concerns e a with
      | false => rfl
      | true => exact absurd (List.any_eq_true.mpr ⟨a, ha, h⟩) hn
    constructor <;> intro _ r hr <;> simp only [Device.concerns, hr, Bool.or_eq_false_iff] at hcon
    · exact hcon.2
    · exact hcon.1

end

/-! ### All entries -/

section
variable {d : Device} {a : Agent} {as : List Agent}

/-- The work of a departure on the entries of a list. -/
def Device.departEntries (d : Device) (as : List Agent) (l : List EntryIx) : Device := l.foldl (Device.departEntry as) d

theorem steady_departEntries (as : List Agent) (l : List EntryIx) (d : Device) : Steady d (d.departEntries as l) :=
  .foldl _ (steady_departEntry as) l d

theorem gone_departEntries (hc : d.Consistent) (ha : a ∈ as) {l : List EntryIx} {e : EntryIx} (he : e ∈ l) :
    (d.departEntries as l).WaitlessOn a e ∧ (d.departEntries as l).AbsentOn a e :=
  foldl_reaches (P := fun d e => d.WaitlessOn a e ∧ d.AbsentOn a e) (Q := fun _ _ => True)
    (fun d e => (steady_departEntry as d e).toCalm) (fun _ _ h _ => gone_departEntry h ha)
    (fun _ _ e h hc hp => ⟨h.waitless hc a e hp.1, h.absent hc a e hp.1 hp.2⟩) (fun _ _ _ _ _ => id) l hc
    (fun _ _ => trivial) e he

/-- The fields that no departure reaches before its end. -/
structure SameBoard (d d' : Device) : Prop where
  agents : d'.agents = d.agents
  boot : d'.boot = d.boot
  config : d'.config = d.config
  issued : d'.issued = d.issued
  cmdReset : d'.cmdReset = d.cmdReset
  recorded : d'.recorded = d.recorded
  reclaimLeft : d'.reclaimLeft = d.reclaimLeft

theorem Reaches.board {e : EntryIx} {d d' : Device} (h : Reaches e d d') : SameBoard d d' :=
  ⟨h.agents, h.boot, h.config, h.issued, h.cmdReset, h.recorded, h.reclaimLeft⟩

theorem SameBoard.refl (d : Device) : SameBoard d d := ⟨rfl, rfl, rfl, rfl, rfl, rfl, rfl⟩

theorem SameBoard.trans {d d' d'' : Device} (h : SameBoard d d') (h' : SameBoard d' d'') : SameBoard d d'' :=
  ⟨h'.agents.trans h.agents, h'.boot.trans h.boot, h'.config.trans h.config, h'.issued.trans h.issued,
    h'.cmdReset.trans h.cmdReset, h'.recorded.trans h.recorded, h'.reclaimLeft.trans h.reclaimLeft⟩

theorem SameBoard.foldl {α : Type} (f : Device → α → Device) (hf : ∀ d x, SameBoard d (f d x)) (l : List α) (d : Device) :
    SameBoard d (l.foldl f d) := by
  induction l generalizing d with
  | nil => exact refl d
  | cons x l ih => exact (hf d x).trans (ih _)

theorem sameBoard_departEntries (as : List Agent) (l : List EntryIx) (d : Device) : SameBoard d (d.departEntries as l) :=
  .foldl _ (fun d e => (reaches_departEntry as d e).board) l d

/-- The roster states of several agents set. -/
def Device.setRosters (d : Device) (as : List Agent) (x : Roster) : Device := as.foldl (fun d a => d.setRoster a x) d

theorem setRosters_eq (d : Device) (as : List Agent) (x : Roster) :
    d.setRosters as x = { d with agents := (d.setRosters as x).agents } := by
  unfold Device.setRosters
  induction as generalizing d with
  | nil => rfl
  | cons a as ih => rw [List.foldl_cons, ih]; rfl

theorem agent_setRoster (d : Device) (a b : Agent) (x : Roster) :
    (d.setRoster a x).agent b = if a = b then { d.agent b with state := x } else d.agent b := by
  rw [Device.setRoster, Device.agent_setAgent]
  split
  · next h => rw [h]
  · rfl

theorem agent_setRosters (d : Device) (as : List Agent) (x : Roster) (b : Agent) :
    (d.setRosters as x).agent b = if b ∈ as then { d.agent b with state := x } else d.agent b := by
  unfold Device.setRosters
  induction as generalizing d with
  | nil => rfl
  | cons a as ih =>
    rw [List.foldl_cons, ih, agent_setRoster]
    by_cases hb : a = b
    · subst hb; simp
    · simp [hb, Ne.symm hb]

/-- The notice cells of several agents cleared. -/
def Device.clearNotices (d : Device) (as : List Agent) : Device := as.foldl (fun d a => d.clearAgentNotices a) d

theorem steady_clearNotices (as : List Agent) (d : Device) : Steady d (d.clearNotices as) :=
  .foldl _ steady_clearAgentNotices as d

theorem notice_clearAgentNotices (d : Device) (a b : Agent) (e : EntryIx) :
    (d.clearAgentNotices a).notice e b = if a = b then {} else d.notice e b := by
  simp only [Device.notice, Device.clearAgentNotices, tget_tabulate, tget_tset]

theorem notice_clearNotices {as : List Agent} {a : Agent} (ha : a ∈ as) (d : Device) (e : EntryIx) :
    (d.clearNotices as).notice e a = {} := by
  have keep : ∀ (as : List Agent) (d : Device), d.notice e a = {} → (d.clearNotices as).notice e a = {} := by
    intro as
    induction as with
    | nil => exact fun _ h => h
    | cons b as ih =>
      intro d h
      refine ih _ ?_
      rw [notice_clearAgentNotices]
      split
      · rfl
      · exact h
  induction as generalizing d with
  | nil => cases ha
  | cons b as ih =>
    rcases List.mem_cons.mp ha with rfl | ha
    · exact keep as _ (by rw [notice_clearAgentNotices, if_pos rfl])
    · exact ih ha _

theorem clearNotices_eq (d : Device) (as : List Agent) :
    d.clearNotices as = { d with notices := (d.clearNotices as).notices } := by
  unfold Device.clearNotices
  induction as generalizing d with
  | nil => rfl
  | cons a as ih => rw [List.foldl_cons, ih]; rfl

theorem depart_eq (d : Device) (as : List Agent) (dest : Roster) : d.depart as dest =
    ((((d.setRosters as .offline).departEntries as allEntries).clearNotices as).setRosters as dest).closeWindow := rfl

end

end Sys2Proof.Machine
end

section
/-!
PROOFS. A departure as a whole (R138, R139): what it keeps, and what it comes to for roster and window.
-/
namespace Sys2Proof.Machine

section
variable {d d' : Device} {e : EntryIx} {a : Agent} {as : List Agent} {x : Roster}

/-- The roster state of an agent agrees with one slot (R133). -/
structure Device.RosterOn (d : Device) (a : Agent) (e : EntryIx) : Prop where
  waitless : d.WaitlessOn a e
  absent : d.AbsentOn a e
  untold : d.UntoldOn a e

theorem Calm.rosterOn (h : Calm d d') (hc : d.Consistent) (hr : d.RosterOn a e) : d'.RosterOn a e :=
  ⟨h.waitless hc a e hr.waitless, h.absent hc a e hr.waitless hr.absent, h.untold hc a e hr.untold⟩

/-- The roster state of an agent agrees with a slot that it has no part in. -/
theorem rosterOn_of_gone (hw : ∀ r, d.entry e = some r → r.waitedBy a = false) (hh : ∀ r, d.entry e = some r → r.heldBy a = false)
    (hn : d.notice e a = {}) : d.RosterOn a e := ⟨fun _ => hw, fun _ => hh, fun _ => hn⟩

/-- Slots and notices as they were, under the same roster state of the agent. -/
theorem rosterOn_of_same (hs : d'.slots = d.slots) (hn : d'.notices = d.notices) (ha : (d'.agent a).state = (d.agent a).state)
    (h : d.RosterOn a e) : d'.RosterOn a e := by
  obtain ⟨hw, hb, hu⟩ := h
  unfold Device.WaitlessOn at hw
  unfold Device.AbsentOn at hb
  unfold Device.UntoldOn Device.notice at hu
  rw [← ha, ← entry_of_slots hs] at hw hb
  rw [← ha, ← hn] at hu
  exact ⟨hw, hb, hu⟩

/-! ### Roster states set -/

theorem keeps_setRosters (d : Device) (as : List Agent) (x : Roster) : Keeps d (d.setRosters as x) := by
  rw [setRosters_eq]; exact keeps_of_board rfl rfl rfl rfl

theorem consistent_setRosters (h : d.Consistent) : (d.setRosters as x).Consistent := by
  rw [setRosters_eq]; exact consistent_of_same (d := d) rfl rfl h

theorem slots_setRosters : (d.setRosters as x).slots = d.slots := by rw [setRosters_eq]
theorem notices_setRosters : (d.setRosters as x).notices = d.notices := by rw [setRosters_eq]

theorem quotas_setRosters (h : d.QuotasKept) : (d.setRosters as x).QuotasKept := by
  refine quotas_of_same slots_setRosters (fun a => ?_) h
  rw [agent_setRosters]
  split <;> exact ⟨rfl, rfl⟩

theorem rosterOn_setRosters (ha : a ∉ as) (h : d.RosterOn a e) : (d.setRosters as x).RosterOn a e :=
  rosterOn_of_same slots_setRosters notices_setRosters (by rw [agent_setRosters, if_neg ha]) h

/-! ### The departure -/

/-- The device of a departure when every entry has been left and the notices cleared, before the agents take their new
state. -/
def Device.departed (d : Device) (as : List Agent) : Device :=
  ((d.setRosters as .offline).departEntries as allEntries).clearNotices as

theorem depart_eq_departed (d : Device) (as : List Agent) (x : Roster) :
    d.depart as x = ((d.departed as).setRosters as x).closeWindow := rfl

theorem keeps_departed (d : Device) (as : List Agent) : Keeps d (d.departed as) :=
  ((keeps_setRosters ..).trans (steady_departEntries ..).toKeeps).trans (steady_clearNotices ..).toKeeps

theorem calm_departed (d : Device) (as : List Agent) : Calm (d.setRosters as .offline) (d.departed as) :=
  (steady_departEntries ..).toCalm.trans (steady_clearNotices ..).toCalm

theorem consistent_departed (h : d.Consistent) : (d.departed as).Consistent :=
  (calm_departed d as).consistent (consistent_setRosters h)

theorem board_departed (d : Device) (as : List Agent) : SameBoard (d.setRosters as .offline) (d.departed as) := by
  refine (sameBoard_departEntries as allEntries _).trans ?_
  unfold Device.departed
  rw [clearNotices_eq]
  exact ⟨rfl, rfl, rfl, rfl, rfl, rfl, rfl⟩

theorem agent_departed : (d.departed as).agent a = (d.setRosters as .offline).agent a :=
  agent_of_agents (board_departed d as).agents a

/-- A departed agent has no part in any slot. -/
theorem gone_departed (hc : d.Consistent) (ha : a ∈ as) (e : EntryIx) :
    (∀ r, (d.departed as).entry e = some r → r.waitedBy a = false ∧ r.heldBy a = false) ∧ (d.departed as).notice e a = {} := by
  have hst : (((d.setRosters as .offline).departEntries as allEntries).agent a).state = .offline := by
    rw [agent_of_agents (sameBoard_departEntries as allEntries _).agents, agent_setRosters, if_pos ha]
  obtain ⟨hw, hab⟩ := gone_departEntries (consistent_setRosters (x := .offline) hc) ha (mem_allEntries e)
  have hs : (d.departed as).slots = ((d.setRosters as .offline).departEntries as allEntries).slots := by
    unfold Device.departed; rw [clearNotices_eq]
  refine ⟨fun r hr => ?_, notice_clearNotices ha _ e⟩
  rw [entry_of_slots hs] at hr
  exact ⟨hw (by rw [hst]; decide) r hr, hab (.inl hst) r hr⟩

theorem rosterOn_departed (hc : d.Consistent) (ha : a ∉ as) (h : d.RosterOn a e) : (d.departed as).RosterOn a e :=
  (calm_departed d as).rosterOn (consistent_setRosters hc) (rosterOn_setRosters ha h)

theorem keeps_depart (d : Device) (as : List Agent) (x : Roster) : Keeps d (d.depart as x) := by
  rw [depart_eq_departed]
  exact ((keeps_departed ..).trans (keeps_setRosters ..)).trans (steady_closeWindow _).toKeeps

theorem consistent_depart (h : d.Consistent) : (d.depart as x).Consistent := by
  rw [depart_eq_departed]
  exact (steady_closeWindow _).consistent (consistent_setRosters (consistent_departed h))

theorem closeWindow_eq (d : Device) : d.closeWindow = { d with reclaimLeft := d.closeWindow.reclaimLeft } := by
  unfold Device.closeWindow; split <;> rfl

theorem quotas_depart (hc : d.Consistent) (h : d.QuotasKept) : (d.depart as x).QuotasKept := by
  rw [depart_eq_departed]
  exact (steady_closeWindow _).quotas (consistent_setRosters (consistent_departed hc))
    (quotas_setRosters ((calm_departed d as).quotas (consistent_setRosters hc) (quotas_setRosters h)))

theorem rosterOn_depart (hc : d.Consistent) (h : ∀ a e, d.RosterOn a e) (a : Agent) (e : EntryIx) :
    (d.depart as x).RosterOn a e := by
  rw [depart_eq_departed, closeWindow_eq]
  have hs : ((d.departed as).setRosters as x).slots = (d.departed as).slots := slots_setRosters
  by_cases ha : a ∈ as
  · obtain ⟨hg, hn⟩ := gone_departed hc ha e
    refine rosterOn_of_gone (fun r hr => (hg r ?_).1) (fun r hr => (hg r ?_).2) ?_
    · rw [← entry_of_slots hs]; exact hr
    · rw [← entry_of_slots hs]; exact hr
    · rw [← hn]; unfold Device.notice; rw [← notices_setRosters (d := d.departed as) (as := as) (x := x)]
  · exact rosterOn_of_same (d := (d.departed as).setRosters as x) rfl rfl rfl
      (rosterOn_setRosters ha (rosterOn_departed hc ha (h a e)))

theorem recorded_depart (d : Device) (as : List Agent) (x : Roster) : (d.depart as x).recorded = d.recorded := by
  rw [depart_eq_departed, closeWindow_eq]
  change ((d.departed as).setRosters as x).recorded = _
  rw [setRosters_eq]
  refine (board_departed d as).recorded.trans ?_
  rw [setRosters_eq]

theorem cmdReset_depart (d : Device) (as : List Agent) (x : Roster) : (d.depart as x).cmdReset = d.cmdReset := by
  rw [depart_eq_departed, closeWindow_eq]
  change ((d.departed as).setRosters as x).cmdReset = _
  rw [setRosters_eq]
  refine (board_departed d as).cmdReset.trans ?_
  rw [setRosters_eq]

end

end Sys2Proof.Machine
end

section
/-!
PROOFS. The commands on leases (REQUEST, RELEASE, RENEW, DOWNGRADE, CANCEL) and FORCE RELEASE, RETIRE and TAKE NOTICE: each
is steady.
-/
namespace Sys2Proof.Machine

section
variable {d : Device} {e : EntryIx} {r : Record} {a : Agent} {p : Params}

/-! ### REQUEST -/

/-- What a REQUEST that passes its checks finds (R28, R29). -/
structure Record.Admits (d : Device) (r : Record) (a : Agent) (m : WaitMode) : Prop where
  live : r.lifecycle = .live
  sharing : m ≠ .exclusive → r.sharing = .sharedAllowed
  held : r.heldBy a = true ↔ m = .upgrade
  waits : r.waitedBy a = false
  single : m = .upgrade → ∀ c ∈ r.queue, c.mode ≠ .upgrade
  quota : m ≠ .upgrade → d.belowHoldQuota a = true

theorem admits_of_requestRefusal {m : WaitMode} (h : requestRefusal d a r m = none) : Record.Admits d r a m := by
  unfold requestRefusal at h
  split at h
  · cases h
  next hret =>
  split at h
  · cases h
  next hshare =>
  split at h
  · cases h
  next hheld =>
  split at h
  · cases h
  next hnot =>
  split at h
  · cases h
  next hwait =>
  split at h
  · cases h
  next hup =>
  split at h
  · cases h
  next hquota =>
  refine ⟨?_, fun hm => ?_, ⟨fun hh => ?_, fun hm => ?_⟩, by simpa using hwait, fun hm c hc hcm => ?_, fun hm => ?_⟩
  · by_contra hl; exact hret (isRetiring_iff.mpr hl)
  · cases hs : r.sharing with
    | sharedAllowed => rfl
    | exclusiveOnly => exact absurd ⟨hm, hs⟩ hshare
  · exact (not_not.mp fun hn => hheld ⟨hh, hn⟩).1
  · cases hb : r.heldBy a with
    | true => rfl
    | false => exact absurd ⟨hm, hb⟩ hnot
  · exact hup ⟨hm, List.any_eq_true.mpr ⟨c, hc, by simp [hcm]⟩⟩
  · cases hb : d.belowHoldQuota a with
    | true => rfl
    | false => exact absurd ⟨hm, hb⟩ hquota

/-- The control lease is EXCLUSIVE_ONLY, and so admits EXCLUSIVE claims alone (R5, R28). -/
theorem Record.Admits.exclusive_of_lease {m : WaitMode} (h : Record.Admits d r a m) (hs : r.sharing = .exclusiveOnly) :
    m = .exclusive := by
  by_contra hm
  rw [h.sharing hm] at hs
  cases hs

theorem Record.Admits.not_held {m : WaitMode} (h : Record.Admits d r a m) (hm : m ≠ .upgrade) : r.heldBy a = false := by
  cases hb : r.heldBy a with
  | false => rfl
  | true => exact absurd (h.held.mp hb) hm

/-- The way into the queue is open: a free cell in the pool, and room in the wait quota (R63). -/
theorem room_of_waitRefusal (h : waitRefusal d a = none) :
    d.sumEntries (·.waits a) < (d.agent a).waitQuota ∧ d.cellsInUse < 64 := by
  unfold waitRefusal at h
  split at h
  · cases h
  next hq =>
  split at h
  · cases h
  next hp => exact ⟨not_le.mp hq, not_le.mp hp⟩

/-- A cell inserted into a queue, where the checks of R28, R29 and R63 have passed (R61). -/
theorem steady_enqueue (hr : d.entry e = some r) {c : WaitCell} (had : Record.Admits d r c.agent c.mode)
    (ht : c.target = true → c.mode = .exclusive) (hw : waitRefusal d c.agent = none) (ho : d.Online c.agent) :
    Steady d (d.enqueue e c) := by
  obtain ⟨hroom, hpool⟩ := room_of_waitRefusal hw
  have h : Replaces e r { r with queue := insertCell c r.queue } d (d.enqueue e c) :=
    .modifyEntry hr fun r => { r with queue := insertCell c r.queue }
  have hlen : (insertCell c r.queue).length ≤ r.queue.length + 1 := by
    rw [(insertCell_perm c r.queue).length_eq, List.length_cons]
  have hlease : r.IsControlLease → ({ r with queue := insertCell c r.queue } : Record).IsControlLease := fun hl =>
    hl.enqueue (had.exclusive_of_lease hl.sharing)
  have hother : ∀ b, (d.agent b).state ≠ .online → c.agent ≠ b := by
    rintro b hn rfl
    exact hn ho
  refine ⟨⟨⟨h.namesSound rfl fun y hy => .inr ⟨y, hy, rfl⟩, fun _ => ?_, h.queuesOrdered fun hq => hq.insert had.single⟩,
    h.controlLeaseKept fun _ => hlease⟩, ⟨fun hc => h.consistent ?_ staysSteered_subqueue hc, fun _ => ?_,
    fun _ b _ => h.waitlessOn fun hn hb => ?_, fun _ b _ => h.absentOn fun _ _ hb => hb, fun _ _ _ => h.untoldOn⟩⟩
  · have := h.sum_le (f := fun s => s.queue.length) hlen
    change d.sumEntries (fun s => s.queue.length) < 64 at hpool
    change (d.enqueue e c).sumEntries (fun s => s.queue.length) ≤ 64
    omega
  · exact (hc.at hr).agrees.enqueue had.waits had.held ht fun hs => had.exclusive_of_lease hs
  · refine h.quotasKept (fun b hq => ?_) fun b hq => ?_
    · have hle := h.sum_le (f := (·.load b)) load_enqueue.le
      split at hle
      · next hb =>
        obtain ⟨rfl, hm⟩ := hb
        have := load_lt_of_belowHoldQuota (had.quota hm)
        omega
      · rw [Nat.add_zero] at hle; exact hle.trans hq
    · have hle := h.sum_le (f := (·.waits b)) waits_enqueue.le
      split at hle
      · next hb => subst hb; omega
      · rw [Nat.add_zero] at hle; exact hle.trans hq
  · rw [waitedBy_eq_false] at hb ⊢
    intro x hx
    rcases mem_insertCell.mp hx with rfl | hx
    · exact hother b hn
    · exact hb x hx

/-- The outcomes of R31 with what each requires. -/
theorem claimOutcome_cases (d : Device) (r : Record) (c : Claim) :
    (claimOutcome d r c = .grant .exclusive ∧ c.mode = .exclusive ∧ r.occupancy = .idle ∧ r.queue = [] ∧
      ∀ g, r.group = some g → (d.group g).connects c.agent = true) ∨
    (∃ g, claimOutcome d r c = .inFlight g ∧ c.mode = .exclusive ∧ r.occupancy = .idle ∧ r.queue = [] ∧ r.group = some g) ∨
    (claimOutcome d r c = .grant .shared ∧ c.mode = .shared ∧ (r.occupancy = .idle ∨ r.occupancy = .heldS) ∧ r.queue = []) ∨
    (claimOutcome d r c = .convert ∧ c.mode = .upgrade ∧ r.holders.map (·.agent) = [c.agent]) ∨
    claimOutcome d r c = .wait := by
  unfold claimOutcome
  cases hm : c.mode with
  | exclusive =>
    dsimp only
    split
    · next h =>
      obtain ⟨ho, hq⟩ := h
      cases hg : r.group with
      | none => exact .inl ⟨rfl, rfl, ho, hq, fun g h => by cases h⟩
      | some g =>
        dsimp only
        split
        · next hcon => exact .inl ⟨rfl, rfl, ho, hq, fun g' h => by cases h; exact hcon⟩
        · exact .inr (.inl ⟨g, rfl, rfl, ho, hq, rfl⟩)
    · exact .inr (.inr (.inr (.inr rfl)))
  | shared =>
    dsimp only
    split
    · next h => exact .inr (.inr (.inl ⟨rfl, rfl, h.1, h.2⟩))
    · exact .inr (.inr (.inr (.inr rfl)))
  | upgrade =>
    dsimp only
    split
    · next h => exact .inr (.inr (.inr (.inl ⟨rfl, rfl, h⟩)))
    · exact .inr (.inr (.inr (.inr rfl)))

/-- The holders of an entry that is IDLE or HELD SHARED are SHARED ones. -/
theorem Record.Agrees.shared_holders (hr : r.Agrees) (ho : r.occupancy = .idle ∨ r.occupancy = .heldS) :
    ∀ h ∈ r.holders, h.mode = .shared := by
  have := hr.fits
  rcases ho with ho | ho <;> rw [ho] at this
  · rw [fits_idle.mp this]; simp
  · exact this.2

theorem Record.Agrees.idle_holders (hr : r.Agrees) (ho : r.occupancy = .idle) : r.holders = [] := by
  have := hr.fits
  rwa [ho] at this

theorem select_of_connects {x : GroupRec} {a : Agent} (h : x.connects a = true) : x.select = .agent a :=
  eq_of_beq (Bool.and_eq_true_iff.mp h).1

theorem steady_takeInFlight (hr : d.entry e = some r) {g : GroupIx} {c : Claim} (had : Record.Admits d r c.agent c.mode)
    (ho : d.Online c.agent) (hm : c.mode = .exclusive) (hi : r.occupancy = .idle) (hq : r.queue = []) (hg : r.group = some g) :
    Steady d (takeInFlight d e g c).1 := by
  unfold takeInFlight
  split
  · exact .refl d
  · next hw =>
    have had' : Record.Admits d r c.targetCell.agent c.targetCell.mode := by rw [hm] at had; exact had
    have h := steady_enqueue (c := c.targetCell) hr had' (fun _ => rfl) hw ho
    have hnext : (d.enqueue e c.targetCell).entry e = some { r with queue := [c.targetCell] } := by
      rw [Device.enqueue, Device.entry_modifyEntry, if_pos rfl, hr, Option.map_some, hq]
      rfl
    refine ((h.trans (steady_startSwitch hnext hg (fun hc => (hc.at hnext).agrees.idle_holders hi) fun _ c' hc' _ => ?_)).trans
      (steady_evaluate ..)).trans (steady_setChan ..)
    rw [List.mem_singleton.mp hc']
    rfl

theorem steady_takeWait (hr : d.entry e = some r) {c : Claim} (had : Record.Admits d r c.agent c.mode)
    (ho : d.Online c.agent) : Steady d (takeWait d e c).1 := by
  unfold takeWait
  split
  · exact .refl d
  · split
    · exact .refl d
    · next hw => exact (steady_enqueue (c := c.cell) hr had (fun h => by cases h) hw ho).trans (steady_handOn ..)

theorem steady_decideClaim (hr : d.entry e = some r) {c : Claim} (had : Record.Admits d r c.agent c.mode)
    (ho : d.Online c.agent) : Steady d (decideClaim d e r c).1 := by
  unfold decideClaim
  rcases claimOutcome_cases d r c with ⟨h, hm, hi, hq, hg⟩ | ⟨g, h, hm, hi, hq, hg⟩ | ⟨h, hm, hi, hq⟩ | ⟨h, hm, ha⟩ | h <;>
    rw [h]
  · refine steady_newGrant hr (fun _ _ => rfl) (fun hc => ?_) (by rw [hi]; trivial) 
      (fun _ g hgr => select_of_connects (hg g hgr)) ho
      (had.quota (by simp [hm]))
    exact (hc.at hr).agrees.withHolder (had.not_held (by simp [hm])) had.waits
      (fun _ => (hc.at hr).agrees.idle_holders hi) fun h => by cases h
  · exact steady_takeInFlight hr had ho hm hi hq hg
  · have hs := had.sharing (by simp [hm])
    refine steady_newGrant hr (fun _ hl => ?_) (fun hc => ?_) ?_ (fun hc g hg => ?_) ho (had.quota (by simp [hm]))
    · rw [hl.sharing] at hs; cases hs
    · exact (hc.at hr).agrees.withHolder (had.not_held (by simp [hm])) had.waits (fun h => by cases h)
        fun _ => ⟨(hc.at hr).agrees.shared_holders hi, hs⟩
    · rcases hi with hi | hi <;> rw [hi] <;> trivial
    · rw [(hc.at hr).agrees.group_of_shared hs] at hg; cases hg
  · exact (steady_convertHolder hr ha ..).trans (steady_evaluate ..)
  · exact steady_takeWait hr had ho

theorem steady_takeRequest (a : Agent) (p : Params) (d : Device) (ho : d.Online a) : Steady d (takeRequest a p d).1 := by
  unfold takeRequest
  split
  · exact .refl d
  · next e r hl =>
    split
    · split
      · exact .refl d
      · next hf => exact steady_decideClaim (lookup_entry hl) (admits_of_requestRefusal hf) ho
    · exact .refl d

/-! ### RELEASE, RENEW, DOWNGRADE, CANCEL, CHECK, QUERY -/

theorem steady_takeRelease (a : Agent) (p : Params) (d : Device) : Steady d (takeRelease a p d).1 := by
  unfold takeRelease
  split
  · exact .refl d
  · next e r hl =>
    split
    · next hh => exact (steady_endGrant_held (lookup_entry hl) hh).trans (steady_handOn ..)
    · exact .refl d

theorem steady_takeRenew (a : Agent) (p : Params) (d : Device) : Steady d (takeRenew a p d).1 := by
  unfold takeRenew
  split
  · exact .refl d
  · split
    · exact .refl d
    · split
      · exact steady_modifyHolder d _ a (fun _ => rfl) (fun _ => rfl) fun _ => rfl
      · exact .refl d

/-- The two writes of a DOWNGRADE as one (R40). -/
theorem replaces_downgrade (hr : d.entry e = some r) (a : Agent) : Replaces e r (r.downgraded a) d
    ((d.modifyHolder e a fun h => { h with mode := .shared }).modifyEntry e fun r => { r with occupancy := .heldS }) :=
  (Replaces.modifyEntry hr fun r => { r with holders := r.holders.map fun h => if h.agent = a then { h with mode := .shared } else h }).modify_again
    fun r => { r with occupancy := .heldS }

theorem follows_downgraded {t : Ticket} : Record.Follows t r (r.downgraded a) where
  key := rfl
  tickets y hy := by
    obtain ⟨x, hx, rfl⟩ := List.mem_map.mp hy
    refine .inr ⟨x, hx, ?_⟩
    split <;> rfl
  length := le_rfl
  ordered := id

theorem steady_downgrade (hr : d.entry e = some r) {h : Holder} (hh : r.holder a = some h) (hm : h.mode = .exclusive)
    (hs : r.sharing = .sharedAllowed) : Steady d
    ((d.modifyHolder e a fun h => { h with mode := .shared }).modifyEntry e fun r => { r with occupancy := .heldS }) := by
  have hrep := replaces_downgrade hr a
  have hne : r.holders ≠ [] := List.ne_nil_of_mem (List.mem_of_find?_eq_some hh)
  refine ⟨hrep.keeps follows_downgraded fun _ hl => ?_, hrep.calm (fun hc => (hc.at hr).agrees.downgraded hh hm hs)
    (fun hc => staysSteered_holders (hc.plain_of_held hr hne) trivial (holders_downgraded_agent ..))
    fun _ => ⟨fun _ => load_downgraded.le, fun _ => le_rfl⟩⟩
  rw [hl.sharing] at hs
  cases hs

theorem steady_takeDowngrade (a : Agent) (p : Params) (d : Device) : Steady d (takeDowngrade a p d).1 := by
  unfold takeDowngrade
  split
  · exact .refl d
  · next e r hl =>
    split
    · exact .refl d
    · next h hh =>
      split
      · exact .refl d
      · next hs =>
        split
        · exact .refl d
        · next hm =>
          refine (steady_downgrade (lookup_entry hl) hh ?_ ?_).trans (steady_handOn ..)
          · cases hx : h.mode with
            | exclusive => rfl
            | shared => exact absurd hx hm
          · cases hx : r.sharing with
            | sharedAllowed => rfl
            | exclusiveOnly => exact absurd hx hs

theorem steady_takeCancel (a : Agent) (p : Params) (d : Device) : Steady d (takeCancel a p d).1 := by
  unfold takeCancel
  split
  · exact .refl d
  · split
    · exact (steady_removeCell ..).trans (steady_handOn ..)
    · exact .refl d

theorem steady_takeCheck (a : Agent) (p : Params) (d : Device) : Steady d (takeCheck a p d).1 := by
  unfold takeCheck
  split
  · exact .refl d
  · split
    · exact .refl d
    · split <;> exact .refl d

theorem steady_takeQuery (a : Agent) (p : Params) (d : Device) : Steady d (takeQuery a p d).1 := by
  unfold takeQuery
  split <;> exact .refl d

theorem steady_takeTakeNotice (a : Agent) (p : Params) (d : Device) : Steady d (takeTakeNotice a p d).1 := by
  unfold takeTakeNotice
  split
  · exact .refl d
  · next e _ => exact ⟨keeps_setNotice d e a fun _ => stamped_empty, calm_setNotice d e a fun _ _ => rfl⟩

theorem steady_takeConfigure (a : Agent) (p : Params) (d : Device) : Steady d (takeConfigure a p d).1 := by
  unfold takeConfigure
  split
  · exact .refl d
  · exact steady_of_board rfl rfl rfl rfl rfl

/-! ### FORCE RELEASE and RETIRE -/

theorem heldBy_of_holder {h : Holder} (hh : r.holder a = some h) : r.heldBy a = true := by simp [Record.heldBy, hh]

theorem steady_takeForceRelease (a : Agent) (p : Params) (d : Device) : Steady d (takeForceRelease a p d).1 := by
  unfold takeForceRelease
  split
  · exact .refl d
  · next e r hl =>
    split
    · exact .refl d
    · split
      · exact .refl d
      · split
        · exact .refl d
        · next hh => exact steady_revoke (lookup_entry hl) (heldBy_of_holder hh)

/-- A record with another lifecycle, outside entry 0. -/
theorem steady_lifecycle (he : e ≠ 0) (d : Device) (l : Lifecycle) :
    Steady d (d.modifyEntry e fun r => { r with lifecycle := l }) := by
  cases hr : d.entry e with
  | none => rw [modifyEntry_free hr]; exact .refl d
  | some r =>
    have h := Replaces.modifyEntry hr fun r => { r with lifecycle := l }
    refine ⟨h.keeps ⟨rfl, fun y hy => .inr ⟨y, hy, rfl⟩, le_rfl, id⟩ fun h0 => absurd h0 he, h.calm (fun hc => ?_)
      (fun _ => ⟨rfl, .inl rfl, fun y hy => .inl ⟨y, hy, rfl⟩⟩) fun _ => ⟨fun _ => le_rfl, fun _ => le_rfl⟩⟩
    exact (hc.at hr).agrees.congr rfl rfl rfl rfl rfl

theorem steady_emptyQueue (d : Device) (e : EntryIx) : Steady d (d.modifyEntry e fun r => { r with queue := [] }) :=
  steady_modifyEntry d e (fun _ => follows_subqueue (List.nil_sublist _)) (fun _ hl => hl.subqueue fun _ h => by cases h)
    (fun _ hc hr => (hc.at hr).agrees.subqueue (List.nil_sublist _)) (fun _ _ _ => staysSteered_subqueue)
    fun _ _ _ => claimsLe_subqueue (List.nil_sublist _)

theorem steady_retireQueue (he : e ≠ 0) (d : Device) (r : Record) (a : Agent) (m : RetireMode) :
    Steady d (d.retireQueue e r a m) :=
  ((steady_lifecycle he d _).trans (.foldl _ (fun d c => steady_tellWaiter d e c _ _) _ _)).trans (steady_emptyQueue ..)

/-- Grants that end one after another on an entry that is neither SWITCHING nor FAULTED, which none of them changes. -/
theorem steady_revokeAll (l : List Holder) {d : Device} (hp : d.Consistent → ∀ r, d.entry e = some r → r.occupancy.Plain) :
    Steady d (l.foldl (fun d h => (d.endGrant e h.agent).post e h.agent .revoked) d) := by
  induction l generalizing d with
  | nil => exact .refl d
  | cons h l ih =>
    refine ((steady_endGrant h.agent hp).trans (steady_post ..)).trans (ih fun _ s hs => ?_)
    rw [entry_post, Device.endGrant, Device.entry_modifyEntry, if_pos rfl] at hs
    obtain ⟨r₀, -, rfl⟩ := Option.map_eq_some_iff.mp hs
    exact plain_occupancyOf _

theorem entry_posts (l : List Holder) (k : NoticeKind) (d : Device) (e x : EntryIx) :
    (l.foldl (fun d h => d.post e h.agent k) d).entry x = d.entry x := by
  induction l generalizing d with
  | nil => rfl
  | cons h l ih => rw [List.foldl_cons, ih, entry_post]

theorem steady_retireHolders (d : Device) (m : RetireMode) (hh : ∀ s, d.entry e = some s → s.holders = r.holders) :
    Steady d (d.retireHolders e r m) := by
  unfold Device.retireHolders
  have hposts : Steady d (r.holders.foldl (fun d h => d.post e h.agent .retiring) d) :=
    Steady.foldl (fun d (h : Holder) => d.post e h.agent .retiring) (fun d h => steady_post d e h.agent .retiring) _ _
  cases m with
  | drain => exact hposts
  | immediate =>
    by_cases hn : r.holders = []
    · simp only [hn, List.foldl_nil]; exact .refl d
    · refine hposts.trans (steady_revokeAll _ fun hc s hs => hc.plain_of_held hs ?_)
      rw [entry_posts] at hs
      rw [hh s hs]
      exact hn

theorem slots_tellWaiter (d : Device) (e : EntryIx) (c : WaitCell) (code : ResultCode) (k : NoticeKind) :
    (d.tellWaiter e c code k).slots = d.slots := by
  unfold Device.tellWaiter
  split
  · rfl
  · exact post_slots ..

theorem slots_tellWaiters (l : List WaitCell) (d : Device) (e : EntryIx) (code : ResultCode) (k : NoticeKind) :
    (l.foldl (fun d c => d.tellWaiter e c code k) d).slots = d.slots := by
  induction l generalizing d with
  | nil => rfl
  | cons c l ih => rw [List.foldl_cons, ih, slots_tellWaiter]

/-- The record of an entry after steps 1 and 2 of a RETIRE (R101). -/
theorem entry_retireQueue (hr : d.entry e = some r) (q : Record) (a : Agent) (m : RetireMode) :
    (d.retireQueue e q a m).entry e = some { r with lifecycle := .retiring a m, queue := [] } := by
  unfold Device.retireQueue
  rw [Device.entry_modifyEntry, if_pos rfl, entry_of_slots (slots_tellWaiters ..), Device.entry_modifyEntry, if_pos rfl, hr]
  rfl

theorem steady_takeRetire (a : Agent) (p : Params) (d : Device) : Steady d (takeRetire a p d).1 := by
  unfold takeRetire
  split
  · exact .refl d
  · next e r hl =>
    split
    · exact .refl d
    · next m _ =>
      split
      · exact .refl d
      · next he =>
        split
        · exact .refl d
        · split
          · exact .refl d
          · refine (((steady_retireQueue he d r a m).trans (steady_retireHolders _ m fun s hs => ?_)).trans
              (steady_evaluate ..)).trans (steady_checkDrain ..)
            rw [entry_retireQueue (lookup_entry hl)] at hs
            cases hs
            rfl

end

end Sys2Proof.Machine
end

section
/-!
PROOFS. Steering events (R113, R117 to R125): the settle, the failure, the edges of STDONE and CLEAR FAULT are steady.
-/
namespace Sys2Proof.Machine

section
variable {d d' : Device} {e : EntryIx} {r : Record} {g : GroupIx} {b : Binding}

/-- A change of the groups alone, under which records and groups agree. -/
theorem calm_of_groups (hs : d'.slots = d.slots) (hn : d'.notices = d.notices) (ha : d'.agents = d.agents)
    (hc : d.Consistent → d'.Consistent) : Calm d d' where
  consistent := hc
  quotas _ := quotas_of_same hs fun a => by rw [agent_of_agents ha]; exact ⟨rfl, rfl⟩
  waitless _ a e h := by
    unfold Device.WaitlessOn
    rw [agent_of_agents ha, entry_of_slots hs]
    exact h
  absent _ a e _ h := by
    unfold Device.AbsentOn
    rw [agent_of_agents ha, entry_of_slots hs]
    exact h
  untold _ a e h := by
    unfold Device.UntoldOn Device.notice
    rw [agent_of_agents ha, hn]
    exact h

/-- A group written with its binding and state as they were. -/
theorem consistent_setGroup (hc : d.Consistent) {x : GroupRec} (hb : x.binding = (d.group g).binding)
    (hs : x.state = (d.group g).state)
    (hw : ∀ e r, d.entry e = some r → r.group = some g → r.AgreesWith e (d.group g) → r.AgreesWith e x) :
    (d.setGroup g x).Consistent := by
  refine consistent_iff.mpr ⟨fun e r hr => ?_, fun y => ?_⟩
  · have h := hc.at (d := d) (e := e) hr
    refine ⟨h.agrees, h.unsteered, fun y hy => ?_⟩
    rw [Device.group_setGroup]
    split
    · next hgy => subst hgy; exact hw e r hr hy (h.steered g hy)
    · exact h.steered y hy
  · obtain ⟨hu, hbe⟩ := hc.group y
    by_cases hy : g = y
    · subst hy
      have hx : (d.setGroup g x).group g = x := (Device.group_setGroup ..).trans (if_pos rfl)
      exact ⟨by rw [hx, hb, hs]; exact hu, fun b' hb' => hbe b' (by rw [hx, hb] at hb'; exact hb')⟩
    · have hx : (d.setGroup g x).group y = d.group y := (Device.group_setGroup ..).trans (if_neg hy)
      exact ⟨by rw [hx]; exact hu, fun b' hb' => hbe b' (by rwa [hx] at hb')⟩

theorem steady_setGroup {x : GroupRec} (hb : x.binding = (d.group g).binding) (hs : x.state = (d.group g).state)
    (hw : d.Consistent → ∀ e r, d.entry e = some r → r.group = some g → r.AgreesWith e (d.group g) → r.AgreesWith e x) :
    Steady d (d.setGroup g x) :=
  ⟨keeps_setGroup d g fun b' hb' => ⟨b', hb ▸ hb', rfl⟩,
   calm_of_groups rfl rfl rfl fun hc => consistent_setGroup hc hb hs (hw hc)⟩

/-- The STDONE level of a group written (R113). -/
theorem steady_setStdone (d : Device) (g : GroupIx) (v : Bool) : Steady d (d.setGroup g { d.group g with stdone := v }) :=
  steady_setGroup rfl rfl fun _ _ _ _ _ h => ⟨h.bound, h.switching, h.faulted, h.selects, h.driven⟩

/-! ### A group that leaves SWITCHING or FAULTED, with its entry -/

/-- A group that is not UNBOUND is bound to an entry with a record that names it (R114). -/
theorem Device.Consistent.steered (hc : d.Consistent) (hs : (d.group g).state ≠ .unbound) :
    ∃ b r, (d.group g).binding = some b ∧ d.entry b.entry = some r ∧ r.group = some g := by
  obtain ⟨hu, hb⟩ := hc.group g
  cases h : (d.group g).binding with
  | none => exact absurd (hu.mp h) hs
  | some b =>
    obtain ⟨r, hr, hg⟩ := hb b h
    exact ⟨b, r, rfl, hr, hg⟩

/-- Nobody holds an entry whose group is SWITCHING or FAULTED (R4, R114). -/
theorem Device.Consistent.vacant (hc : d.Consistent) (hr : d.entry e = some r) (hg : r.group = some g)
    (hs : (d.group g).state = .switching ∨ (d.group g).state = .faulted) : r.holders = [] := by
  by_contra hh
  obtain ⟨hsw, hf⟩ := plain_iff.mp (hc.plain_of_held hr hh)
  have hw := (hc.at hr).steered g hg
  rcases hs with hs | hs
  · rw [hw.switching.mpr hs] at hsw; cases hsw
  · exact hf (hw.faulted.mpr hs)

/-- The states that a group and its entry leave SWITCHING and FAULTED for. -/
inductive Leaves : Occupancy → GroupState → Prop where
  | settled : Leaves .idle .settled
  | faulted : Leaves .faulted .faulted

theorem agreesWith_leaves {x : GroupRec} {o : Occupancy} (hx : x.binding = some b) (he : b.entry = e) (hh : r.holders = [])
    (ho : Leaves o x.state) : ({ r with occupancy := o } : Record).AgreesWith e x where
  bound := ⟨b, hx, he⟩
  switching := by
    generalize hst : x.state = st at ho
    cases ho <;> exact iff_of_false (by simp [Record.isSwitching]) (by simp)
  faulted := by
    generalize hst : x.state = st at ho
    cases ho <;> simp
  selects y hy := by rw [show r.holders = [] from hh] at hy; cases hy
  driven b' t n _ ht := by
    generalize hst : x.state = st at ho
    cases ho <;> cases ht

/-- The write of a group and its entry at a settle, a failure or CLEAR FAULT. -/
theorem steady_leaves (hb : (d.group g).binding = some b) (hr : d.entry b.entry = some r)
    (hs : (d.group g).state = .switching ∨ (d.group g).state = .faulted) {x : GroupRec} (hx : x.binding = some b)
    {o : Occupancy} (ho : Leaves o x.state) : Steady d ((d.putRecord b.entry { r with occupancy := o }).setGroup g x) := by
  have hxb : ∀ b', x.binding = some b' → ∃ b'', (d.group g).binding = some b'' ∧ b''.entry = b'.entry :=
    fun b' hb' => ⟨b, hb, by rw [hx] at hb'; cases hb'; rfl⟩
  have hrep : Replaces b.entry r { r with occupancy := o } d (d.putRecord b.entry { r with occupancy := o }) := ⟨hr, rfl, .inl rfl⟩
  have hkg : Keeps (d.putRecord b.entry { r with occupancy := o }) ((d.putRecord b.entry { r with occupancy := o }).setGroup g x) :=
    keeps_setGroup _ g hxb
  refine ⟨⟨(hrep.keepsNames follows_occupancy).trans hkg.toKeepsNames, fun hk => ?_⟩, .of_consistent fun hc => ?_⟩
  · exact (keeps_steer hr follows_occupancy (fun he => absurd he (hk.unsteered g b hb)) hxb).control hk
  · have hg := hc.group_of_binding hr hb rfl
    have hh := hc.vacant hr hg hs
    refine calm_steer (r' := { r with occupancy := o }) hr hg hg (fun hc => (hc.at hr).agrees.vacant hh ?_)
      (fun _ => agreesWith_leaves hx rfl hh ho) ?_ ⟨fun _ => le_rfl, fun _ => le_rfl⟩
    · generalize x.state = st at ho
      cases ho <;> rfl
    · generalize x.state = st at ho
      cases ho <;> simp

/-- A group that leaves SWITCHING or FAULTED with no entry to go with: that does not happen where records and groups agree. -/
theorem steady_astray (hs : (d.group g).state = .switching ∨ (d.group g).state = .faulted) {x : GroupRec}
    (hx : x.binding = (d.group g).binding) (hn : ∀ b, (d.group g).binding = some b → d.entry b.entry = none) :
    Steady d (d.setGroup g x) := by
  refine ⟨keeps_setGroup d g fun b' hb' => ⟨b', hx ▸ hb', rfl⟩, .of_consistent fun hc => ?_⟩
  obtain ⟨b, r, hb, hr, -⟩ := hc.steered (g := g) (by rcases hs with hs | hs <;> rw [hs] <;> decide)
  rw [hn b hb] at hr
  cases hr

theorem setGroup_modifyEntry (hr : d.entry e = some r) (x : GroupRec) (f : Record → Record) :
    (d.setGroup g x).modifyEntry e f = (d.putRecord e (f r)).setGroup g x :=
  modifyEntry_eq_putRecord (d := d.setGroup g x) hr f

theorem steady_clearGroupFault (hs : (d.group g).state = .faulted) : Steady d (d.clearGroupFault g) := by
  unfold Device.clearGroupFault
  dsimp only
  split
  · next hb => exact steady_astray (.inr hs) rfl fun b h => by rw [hb] at h; cases h
  · next b hb =>
    refine .trans ?_ (steady_handOn ..)
    cases hr : d.entry b.entry with
    | none =>
      rw [modifyEntry_free (d := d.setGroup g _) hr]
      exact steady_astray (.inr hs) rfl fun b' h => by rw [hb] at h; cases h; exact hr
    | some r =>
      rw [setGroup_modifyEntry hr]
      exact steady_leaves (x := { d.group g with state := .settled, settleKnown := false }) hb hr (.inr hs) hb .settled

theorem steady_takeClearFault (a : Agent) (p : Params) (d : Device) : Steady d (takeClearFault a p d).1 := by
  unfold takeClearFault
  split
  · exact .refl d
  · split
    · next hs => exact steady_clearGroupFault hs
    · exact .refl d

/-! ### The settle (R119, R120) -/

/-- The group record of a settle. -/
def GroupRec.settled (x : GroupRec) : GroupRec :=
  { x with state := .settled, settleKnown := true, phase := none, stdone := true }

theorem keeps_newGrant_exclusive (d : Device) (e : EntryIx) (a : Agent) (p : Priority) (t : Term) :
    Keeps d (d.newGrant e a .exclusive p t) := by
  cases hr : d.entry e with
  | none =>
    rw [Device.newGrant, Device.addHolder, modifyEntry_free hr]
    exact keeps_advanceTicket d
  | some r => exact (replaces_newGrant hr ..).keeps (follows_withHolder rfl) fun _ hl => hl.withHolder rfl

theorem keeps_settleGrant (d : Device) (e : EntryIx) (r : Record) (c : WaitCell) : Keeps d (d.settleGrant e r c) := by
  have h := (steady_removeCell d e c.agent).toKeeps.trans
    (keeps_newGrant_exclusive (d.removeCell e c.agent) e c.agent c.priority (r.grantedTerm c.term))
  unfold Device.settleGrant
  split
  · exact h.trans (keeps_finish ..)
  · exact h.trans (keeps_post ..)

/-- The answer or the notice that follows the grant of a settle leaves records and groups. -/
theorem calm_settleGrant (hr : d.entry e = some r) {c : WaitCell} (hg : Record.Grantable d r c) (hm : c.mode = .exclusive)
    {q : Record} (hq : q.grantedTerm c.term = r.grantedTerm c.term) : Calm d (d.settleGrant e q c) := by
  have h := calm_grantCell hr hg
  have heq : (d.removeCell e c.agent).newGrant e c.agent .exclusive c.priority (q.grantedTerm c.term) = d.grantCell e c := by
    unfold Device.grantCell
    rw [hr, hq]
    simp [hm]
  unfold Device.settleGrant
  dsimp only
  rw [heq]
  split
  · exact h.trans (steady_finish ..).toCalm
  · exact h.trans (steady_post ..).toCalm

theorem targetCell_eq_some {c : WaitCell} (h : r.targetCell = some c) :
    r.occupancy = .switching (.agent c.agent) ∧ c ∈ r.queue ∧ c.target = true := by
  unfold Record.targetCell at h
  split at h
  · next a ho =>
    have hp := List.find?_some h
    simp only [Bool.decide_and, Bool.and_eq_true, decide_eq_true_eq] at hp
    refine ⟨?_, List.mem_of_find?_eq_some h, by simpa using hp.2⟩
    rw [ho, hp.1]
  · cases h

theorem requesting_iff {x : GroupRec} : x.requesting = true ↔ x.state = .switching ∧ ∃ n, x.phase = some (.requesting n) := by
  unfold GroupRec.requesting
  rcases x.phase with _ | ⟨_ | n⟩ <;> simp

/-- The settle of an entry after group and entry have been written: a LIVE entry's target cell is granted (R120). -/
theorem settleEntry_cases (d : Device) (e : EntryIx) (r : Record) :
    (∃ c, r.targetCell = some c ∧ d.settleEntry e r =
      ((d.modifyEntry e fun r => { r with occupancy := .idle }).settleGrant e r c).evaluate e) ∨
    ((r.isRetiring = true ∨ r.targetCell = none) ∧
      d.settleEntry e r = (d.modifyEntry e fun r => { r with occupancy := .idle }).handOn e) := by
  unfold Device.settleEntry
  cases hr : r.isRetiring with
  | true => exact .inr ⟨.inl rfl, rfl⟩
  | false =>
    cases ht : r.targetCell with
    | none => exact .inr ⟨.inr rfl, rfl⟩
    | some c => exact .inl ⟨c, rfl, rfl⟩

/-- The switch-target cell can be granted at the settle: its group selects its agent (R114, R118, R120). -/
theorem grantable_target (hc : d.Consistent) (hb : (d.group g).binding = some b) (hr : d.entry b.entry = some r)
    (hq : (d.group g).requesting = true) {c : WaitCell} (ht : r.targetCell = some c) :
    Record.Grantable ((d.putRecord b.entry { r with occupancy := .idle }).setGroup g (d.group g).settled)
      { r with occupancy := .idle } c ∧ c.mode = .exclusive := by
  obtain ⟨hs, n, hn⟩ := requesting_iff.mp hq
  obtain ⟨ho, hcq, hct⟩ := targetCell_eq_some ht
  have hg := hc.group_of_binding hr hb rfl
  have hm := (hc.at hr).agrees.targets c hcq hct
  have hsel : (d.group g).select = .agent c.agent := ((hc.at hr).steered g hg).driven b _ n hb ho hn
  have hh := hc.vacant hr hg (.inl hs)
  refine ⟨⟨hcq, by simp [hm], trivial, fun _ => ⟨hh, fun g' hg' => ?_⟩, fun h => ?_⟩, hm⟩
  · cases hg.symm.trans hg'
    rw [Device.group_setGroup, if_pos rfl]
    exact hsel
  · rw [hm] at h; cases h

theorem steady_settle (hq : (d.group g).requesting = true) : Steady d (d.settle g) := by
  obtain ⟨hs, -⟩ := requesting_iff.mp hq
  unfold Device.settle
  dsimp only
  split
  · next hb => exact steady_astray (.inl hs) rfl fun b h => by rw [hb] at h; cases h
  · next b hb =>
    split
    · next hr => exact steady_astray (.inl hs) rfl fun b' h => by rw [hb] at h; cases h; exact hr
    · next r hr =>
      have hr : d.entry b.entry = some r := hr
      have hl := steady_leaves (x := (d.group g).settled) hb hr (.inl hs) hb .settled
      rw [← setGroup_modifyEntry (f := fun r => { r with occupancy := .idle }) hr] at hl
      rcases settleEntry_cases (d.setGroup g (d.group g).settled) b.entry r with ⟨c, ht, heq⟩ | ⟨-, heq⟩ <;>
        refine heq ▸ ?_
      · refine .trans ⟨hl.toKeeps.trans (keeps_settleGrant ..), .of_consistent fun hc => hl.toCalm.trans ?_⟩ (steady_evaluate ..)
        obtain ⟨hg, hm⟩ := grantable_target hc hb hr hq ht
        rw [setGroup_modifyEntry hr]
        exact calm_settleGrant (by exact (entry_putRecord ..).trans (if_pos rfl)) hg hm rfl
      · exact hl.trans (steady_handOn ..)

theorem steady_stdoneRise (d : Device) (g : GroupIx) : Steady d (d.stdoneRise g) := by
  unfold Device.stdoneRise
  split
  · next hq => exact steady_settle hq
  · exact steady_setStdone d g true

/-! ### The fall of STDONE (R118) -/

/-- A deferred switch driven toward the target of its entry. -/
theorem steady_drive (hs : (d.group g).state = .switching) (hb : (d.group g).binding = some b) {t : SwitchTarget}
    (ht : (d.entry b.entry).map Record.occupancy = some (.switching t)) :
    Steady d (d.setGroup g ({ d.group g with stdone := false }.enterRequesting b t)) := by
  refine steady_setGroup rfl rfl fun hc e r hr hg h => ⟨h.bound, h.switching, h.faulted, fun y hy => ?_, fun b' t' n hb' ht' _ => ?_⟩
  · rw [hc.vacant hr hg (.inl hs)] at hy
    cases hy
  · cases hb.symm.trans hb'
    obtain ⟨b', hb'', he⟩ := h.bound
    cases hb.symm.trans hb''
    rw [he, hr, Option.map_some, ht'] at ht
    cases ht
    rfl

theorem steady_stdoneFall (d : Device) (g : GroupIx) : Steady d (d.stdoneFall g) := by
  unfold Device.stdoneFall
  dsimp only
  split
  · next hq =>
    have hs : (d.group g).state = .switching := eq_of_beq (Bool.and_eq_true_iff.mp hq).1
    split
    · exact steady_setStdone d g false
    · next b hb =>
      split
      · next t ht => exact steady_drive hs hb ht
      · exact steady_setStdone d g false
  · exact steady_setStdone d g false

/-! ### The failure of a switch (R123) -/

theorem steady_dropTarget (d : Device) (e : EntryIx) (r : Record) : Steady d (d.dropTarget e r) := by
  unfold Device.dropTarget
  split
  · exact .refl d
  · exact (steady_tellWaiter ..).trans (steady_removeCell ..)

theorem steady_switchFails (hs : (d.group g).state = .switching) : Steady d (d.switchFails g) := by
  unfold Device.switchFails
  dsimp only
  split
  · next hb => exact steady_astray (.inl hs) rfl fun b h => by rw [hb] at h; cases h
  · next b hb =>
    split
    · next hr => exact steady_astray (.inl hs) rfl fun b' h => by rw [hb] at h; cases h; exact hr
    · next r hr =>
      have hr : d.entry b.entry = some r := hr
      rw [setGroup_modifyEntry hr]
      exact (((steady_leaves (x := { d.group g with state := .faulted, settleKnown := false, phase := none }) hb hr (.inl hs) hb
        .faulted).trans (steady_dropTarget ..)).trans (steady_checkDrain ..)).trans
        (steady_evaluate ..)

theorem steady_switchExpires (d : Device) (g : GroupIx) : Steady d (d.switchExpires g) := by
  unfold Device.switchExpires
  split
  · next h => exact steady_switchFails h.1
  · exact .refl d

end

end Sys2Proof.Machine
end

section
/-!
PROOFS. OPEN, DEFINE and AMEND (R9 to R16, R115, R116): what they keep.
-/
namespace Sys2Proof.Machine

section
variable {d d' : Device} {e : EntryIx} {r : Record} {g : GroupIx}

/-! ### A record created (R9) -/

theorem entry_createRecord (d : Device) (e x : EntryIx) (r : Record) :
    (d.createRecord e r).entry x = if e = x then some r else d.entry x := by
  unfold Device.createRecord Device.clearSlotNotices Device.entry
  change ((d.setSlot e _).slot x).record = _
  rw [Device.slot_setSlot]
  split <;> rfl

theorem generation_createRecord (d : Device) (e x : EntryIx) (r : Record) :
    ((d.createRecord e r).slot x).generation = (d.slot x).generation := by
  unfold Device.createRecord Device.clearSlotNotices
  change ((d.setSlot e _).slot x).generation = _
  rw [Device.slot_setSlot]
  split
  · next h => rw [h]
  · rfl

theorem notice_createRecord (d : Device) (e x : EntryIx) (a : Agent) (r : Record) :
    (d.createRecord e r).notice x a = if e = x then {} else d.notice x a := by
  unfold Device.createRecord Device.clearSlotNotices Device.notice
  simp only [Device.setSlot_notices, tget_tset]
  split
  · exact tget_replicate ..
  · rfl

theorem sumEntries_createRecord_le (hf : d.entry e = none) {f : Record → Nat} (h0 : f r = 0) :
    (d.createRecord e r).sumEntries f ≤ d.sumEntries f :=
  sumEntries_le fun x => by
    rw [entry_createRecord]
    split
    · next hx => rw [← hx, hf]; exact h0.le
    · exact le_rfl

theorem entry_zero_ne (hk : d.ControlLeaseKept) (hf : d.entry e = none) : e ≠ 0 := by
  rintro rfl
  obtain ⟨s, hs, -⟩ := hk.entry
  rw [hf] at hs
  cases hs

theorem queueOrdered_nil : QueueOrdered [] := ⟨fun _ hc => absurd hc List.not_mem_nil, List.Pairwise.nil⟩

/-- A record with a new key, that nobody holds or waits for, in a FREE slot. -/
theorem keeps_createRecord (hf : d.entry e = none) (hk : ∀ x s, d.entry x = some s → s.key ≠ r.key)
    (hh : r.holders = []) (hq : r.queue = []) : Keeps d (d.createRecord e r) where
  names h :=
    { tickets := ⟨h.tickets.counter, fun x s hs y hy => by
        rw [entry_createRecord] at hs
        split at hs
        · cases hs; rw [hh] at hy; cases hy
        · exact h.tickets.issued x s hs y hy⟩
      generations := fun x => by rw [generation_createRecord]; exact h.generations x
      keys := fun x x' s s' hs hs' hss => by
        rw [entry_createRecord] at hs hs'
        split at hs <;> split at hs'
        · next h1 h2 => exact h1.symm.trans h2
        · cases hs; exact absurd hss.symm (hk x' s' hs')
        · cases hs'; exact absurd hss (hk x s hs)
        · exact h.keys x x' s s' hs hs' hss
      notices := fun x a => by
        rw [notice_createRecord]
        split
        · exact stamped_empty
        · exact h.notices x a }
  pool := le_trans (sumEntries_createRecord_le hf (by simp [hq]))
  queues h x s hs := by
    rw [entry_createRecord] at hs
    split at hs
    · cases hs; rw [hq]; exact queueOrdered_nil
    · exact h x s hs
  control h := by
    obtain ⟨s, hs, hl⟩ := h.entry
    refine ⟨⟨s, ?_, hl⟩, by rw [generation_createRecord]; exact h.generation, h.unsteered⟩
    rw [entry_createRecord, if_neg (entry_zero_ne h hf)]
    exact hs

/-- The same for quotas and roster, with a change of the groups under which records and groups agree. -/
theorem calm_create (hf : d.entry e = none) (hh : r.holders = []) (hq : r.queue = [])
    (hs : d'.slots = (d.createRecord e r).slots) (hn : d'.notices = (d.createRecord e r).notices) (ha : d'.agents = d.agents)
    (hc : d.Consistent → d'.Consistent) : Calm d d' := by
  have hent : ∀ x, d'.entry x = if e = x then some r else d.entry x := fun x => by
    rw [entry_of_slots hs, entry_createRecord]
  have hag := agent_of_agents ha
  refine ⟨hc, fun _ h => ?_, fun _ a x h => ?_, fun _ a x _ h => ?_, fun _ a x h => ?_⟩
  · rw [quotasKept_iff] at h ⊢
    intro a
    rw [hag, sumEntries_of_slots hs, sumEntries_of_slots hs]
    exact ⟨(sumEntries_createRecord_le hf (by simp [Record.load, hh, hq])).trans (h a).1,
      (sumEntries_createRecord_le hf (by simp [Record.waits, hq])).trans (h a).2⟩
  · intro hst s hs
    rw [hag] at hst
    rw [hent] at hs
    split at hs
    · cases hs; simp [waitedBy_eq_false, hq]
    · exact h hst s hs
  · intro hst s hs
    rw [hag] at hst
    rw [hent] at hs
    split at hs
    · cases hs; simp [heldBy_eq_false, hh]
    · exact h hst s hs
  · intro hst
    rw [hag] at hst
    have : d'.notice x a = (d.createRecord e r).notice x a := by unfold Device.notice; rw [hn]
    rw [this, notice_createRecord]
    split
    · rfl
    · exact h hst

/-- No group is bound to a FREE slot (R114). -/
theorem Device.Consistent.not_bound (hc : d.Consistent) (hf : d.entry e = none) {b : Binding}
    (hb : (d.group g).binding = some b) : b.entry ≠ e := by
  rintro rfl
  obtain ⟨s, hs, -⟩ := (hc.group g).entry b hb
  rw [hf] at hs
  cases hs

theorem consistent_createRecord (hc : d.Consistent) (hf : d.entry e = none) (hg : r.group = none) (ha : r.Agrees)
    (hp : r.occupancy.Plain) : (d.createRecord e r).Consistent := by
  refine consistent_of_local (e := e) hc (fun x hx => by rw [entry_createRecord, if_neg (Ne.symm hx)]) (fun s hs => ?_)
    fun y => .inl ⟨rfl, fun b hb => hc.not_bound hf hb⟩
  rw [entry_createRecord, if_pos rfl] at hs
  cases hs
  exact ⟨ha, fun _ => hp, fun y hy => by rw [hg] at hy; cases hy⟩

theorem steady_createRecord (hf : d.entry e = none) (hk : ∀ x s, d.entry x = some s → s.key ≠ r.key)
    (hg : r.group = none) (hh : r.holders = []) (hq : r.queue = []) (ho : r.occupancy = .idle) :
    Steady d (d.createRecord e r) :=
  ⟨keeps_createRecord hf hk hh hq, calm_create hf hh hq rfl rfl rfl fun hc => consistent_createRecord hc hf hg
    (agrees_of_empty hh hq (by rw [ho]; rfl) fun h => absurd hg h) (by rw [ho]; trivial)⟩

theorem steady_takeOpen (a : Agent) (p : Params) (d : Device) : Steady d (takeOpen a p d).1 := by
  unfold takeOpen
  dsimp only
  split
  · exact .refl d
  · split
    · split <;> exact .refl d
    · next hk =>
      split
      · exact .refl d
      · split
        · exact .refl d
        · split
          · next e c hf _ =>
            exact steady_createRecord (entry_of_freeSlot hf) (fun x s hs => findKey_eq_none_iff.mp hk x s hs) rfl rfl rfl rfl
          · exact .refl d

/-! ### Groups bound and unbound (R115, R116) -/

/-- A group record bound to an entry other than entry 0. -/
theorem keeps_setGroup_bound (d : Device) (g : GroupIx) {x : GroupRec} (hx : ∀ b, x.binding = some b → b.entry ≠ 0) :
    Keeps d (d.setGroup g x) where
  names h := ⟨⟨h.tickets.counter, h.tickets.issued⟩, h.generations, h.keys, h.notices⟩
  pool h := h
  queues h := h
  control h :=
    { entry := h.entry
      generation := h.generation
      unsteered := fun y b hb => by
        rw [Device.group_setGroup] at hb
        split at hb
        · exact hx b hb
        · exact h.unsteered y b hb }

theorem keepsNames_setGroup (d : Device) (g : GroupIx) (x : GroupRec) : KeepsNames d (d.setGroup g x) where
  names h := ⟨⟨h.tickets.counter, h.tickets.issued⟩, h.generations, h.keys, h.notices⟩
  pool h := h
  queues h := h

theorem steady_returnHome (hr : d.entry e = some r) (hg : r.group = some g) (hh : d.Consistent → r.holders = [])
    (hq : r.queue = []) : Steady d (d.returnHome e g) := by
  unfold Device.returnHome
  split
  · exact steady_startSwitch hr hg hh fun _ c hc => by rw [hq] at hc; cases hc
  · exact .refl d

/-- A group with the binding `b`, just bound (R115). -/
theorem bindGroup_def (d : Device) (e : EntryIx) (q : SteerParams) : d.bindGroup e q =
    (d.setGroup q.group ((d.group q.group).newlyBound (d.bindingOf e q))).returnHome e q.group := rfl

/-- The idle record of an entry agrees with a group that is SETTLED and bound to it. -/
theorem agreesWith_settled {x : GroupRec} {b : Binding} (hx : x.binding = some b) (he : b.entry = e) (hs : x.state = .settled)
    (ho : r.occupancy = .idle) (hh : r.holders = []) : r.AgreesWith e x where
  bound := ⟨b, hx, he⟩
  switching := iff_of_false (by simp [Record.isSwitching, ho]) (by simp [hs])
  faulted := iff_of_false (by simp [ho]) (by simp [hs])
  selects y hy := by rw [hh] at hy; cases hy
  driven b' t n _ ht := by rw [ho] at ht; cases ht

/-! ### DEFINE (R13) -/

/-- A group named by consistent parameters comes with the class EXCLUSIVE_ONLY (R2, R12). -/
theorem sharing_of_steer {p : Params} {q : RecordParams} (h : recordParams p = some q) (hs : q.steer ≠ none) :
    q.sharing = .exclusiveOnly := by
  unfold recordParams at h
  split at h
  · dsimp only at h
    split at h
    · cases h
    · split at h
      · cases h
      · split at h
        · cases h
        · next hn =>
          cases h
          by_contra hc
          refine hn (Bool.and_eq_true_iff.mpr ⟨Option.isSome_iff_ne_none.mpr hs, ?_⟩)
          cases hx : sharingOf p.sharing with
          | none => simp_all
          | some c => cases c <;> simp_all
  · cases h

theorem agrees_record {q : RecordParams} {k : Key} (hs : q.steer ≠ none → q.sharing = .exclusiveOnly) : (q.record k).Agrees :=
  agrees_of_empty rfl rfl rfl fun hg => hs fun hn => hg (by simp [RecordParams.record, hn])

/-- A record created with a group that nothing is bound to, and the group bound to it. -/
theorem steady_createBound (hf : d.entry e = none) (hk : ∀ x s, d.entry x = some s → s.key ≠ r.key) (hg : r.group = some g)
    (hh : r.holders = []) (hq : r.queue = []) (ho : r.occupancy = .idle) (ha : r.Agrees) (hb : (d.group g).binding = none)
    {b : Binding} (he : b.entry = e) : Steady d ((d.createRecord e r).setGroup g ((d.group g).newlyBound b)) := by
  have hkc := keeps_createRecord hf hk hh hq
  refine ⟨⟨hkc.toKeepsNames.trans (keepsNames_setGroup ..), fun h => ?_⟩, calm_create hf hh hq rfl rfl rfl fun hc => ?_⟩
  · refine (keeps_setGroup_bound _ g fun b' hb' => ?_).control (hkc.control h)
    cases hb'
    rw [he]
    exact entry_zero_ne h hf
  · have hent : ∀ x, ((d.createRecord e r).setGroup g ((d.group g).newlyBound b)).entry x = if e = x then some r else d.entry x :=
      fun x => entry_createRecord d e x r
    have hgrp : ∀ y, ((d.createRecord e r).setGroup g ((d.group g).newlyBound b)).group y =
        if g = y then (d.group g).newlyBound b else d.group y := fun y => Device.group_setGroup ..
    refine consistent_of_local (e := e) hc (fun x hx => by rw [hent, if_neg (Ne.symm hx)]) (fun s hs => ?_) fun y => ?_
    · rw [hent, if_pos rfl] at hs
      cases hs
      refine ⟨ha, fun hn => absurd (hg.symm.trans hn) (by simp), fun y hy => ?_⟩
      cases hg.symm.trans hy
      rw [hgrp, if_pos rfl]
      exact agreesWith_settled rfl he rfl ho hh
    · by_cases hy : g = y
      · subst hy
        refine .inr ⟨⟨?_, fun b' hb' => ?_⟩, fun b' hb' => by rw [hb] at hb'; cases hb'⟩
        · rw [hgrp, if_pos rfl]; exact iff_of_false (by simp [GroupRec.newlyBound]) (by simp [GroupRec.newlyBound])
        · rw [hgrp, if_pos rfl] at hb'
          cases hb'
          exact ⟨r, by rw [hent, if_pos he.symm], hg⟩
      · exact .inl ⟨by rw [hgrp, if_neg hy], fun b' hb' => hc.not_bound hf hb'⟩

theorem steady_takeDefine (a : Agent) (p : Params) (d : Device) : Steady d (takeDefine a p d).1 := by
  unfold takeDefine
  split
  · exact .refl d
  · next q hq =>
    split
    · exact .refl d
    · next hk =>
      split
      · exact .refl d
      · next hg =>
        split
        · exact .refl d
        · next e hf =>
          have hk : ∀ x s, d.entry x = some s → s.key ≠ p.key := findKey_eq_none_iff.mp hk
          have hf := entry_of_freeSlot hf
          have ha := agrees_record (k := p.key) (sharing_of_steer hq)
          cases hs : q.steer with
          | none => exact steady_createRecord hf hk (by simp [RecordParams.record, hs]) rfl rfl rfl
          | some s =>
            have hrg : (q.record p.key).group = some s.group := by simp [RecordParams.record, hs]
            have hb : (d.group s.group).binding = none := by simpa [hs, Device.groupBound] using hg
            refine (steady_createBound hf hk hrg rfl rfl rfl ha hb (b := d.bindingOf e s) rfl).trans
              (steady_returnHome ?_ hrg (fun _ => rfl) rfl)
            exact (entry_createRecord ..).trans (if_pos rfl)

/-! ### AMEND (R14 to R16) -/

/-- The parameters of an AMEND written into the record of an entry other than entry 0. -/
theorem keeps_amend (hr : d.entry e = some r) (he : e ≠ 0) (q : RecordParams) : Keeps d (d.putRecord e (q.amend r)) :=
  have h : Replaces e r (q.amend r) d (d.putRecord e (q.amend r)) := ⟨hr, rfl, .inl rfl⟩
  h.keeps ⟨rfl, fun y hy => .inr ⟨y, hy, rfl⟩, le_rfl, id⟩ fun h0 => absurd h0 he

theorem calm_amend (hr : d.entry e = some r) (q : RecordParams) (hs : d'.slots = (d.putRecord e (q.amend r)).slots)
    (hn : d'.notices = d.notices) (ha : d'.agents = d.agents) (hc : d.Consistent → d'.Consistent) : Calm d d' :=
  have h : Replaces e r (q.amend r) d (d.putRecord e (q.amend r)) := ⟨hr, rfl, .inl rfl⟩
  h.calm_groups ⟨fun _ => le_rfl, fun _ => le_rfl⟩ hs hn ha hc

/-- An idle record nobody waits for agrees under the parameters of an AMEND. -/
theorem agrees_amend {q : RecordParams} (hs : q.steer ≠ none → q.sharing = .exclusiveOnly) (hh : r.holders = [])
    (ho : r.occupancy = .idle) (hq : r.queue = []) : (q.amend r).Agrees :=
  agrees_of_empty hh hq (by rw [show (q.amend r).occupancy = r.occupancy from rfl, ho]; rfl)
    fun hg => hs fun hn => hg (by simp [RecordParams.amend, hn])

/-- The groups after the entry's own has been unbound: that one, and the others as they were. -/
theorem groups_unbound (hc : d.Consistent) (hr : d.entry e = some r) {y : GroupIx} (hy : r.group = some y)
    (hgrp : d'.group y = (d.group y).unbind) :
    d'.GroupAgrees y ∧ ∀ b, (d.group y).binding = some b → b.entry = e := by
  refine ⟨⟨by rw [hgrp]; exact iff_of_true rfl rfl, fun b hb => by rw [hgrp] at hb; cases hb⟩, fun b hb => ?_⟩
  obtain ⟨b', hb', he⟩ := hc.binding hr hy
  cases hb.symm.trans hb'
  exact he

/-- AMEND that names no group (R15). -/
theorem steady_amendNone (hr : d.entry e = some r) (he : e ≠ 0) {q : RecordParams} (hs : q.steer = none)
    (ho : r.occupancy = .idle) (hq : r.queue = []) : Steady d ((d.putRecord e (q.amend r)).unbindGroup r.group) := by
  have hent : ∀ x, ((d.putRecord e (q.amend r)).unbindGroup r.group).entry x = if e = x then some (q.amend r) else d.entry x :=
    fun x => by rw [entry_unbindGroup, entry_putRecord]
  refine ⟨(keeps_amend hr he q).trans (keeps_unbindGroup ..), calm_amend hr q (by rw [unbindGroup_eq]) (by rw [unbindGroup_eq]; rfl)
    (unbindGroup_agents ..) fun hc => ?_⟩
  refine consistent_of_local (e := e) hc (fun x hx => by rw [hent, if_neg (Ne.symm hx)]) (fun s hs' => ?_) fun y => ?_
  · rw [hent, if_pos rfl] at hs'
    cases hs'
    have hg : (q.amend r).group = none := by simp [RecordParams.amend, hs]
    refine ⟨agrees_amend (fun h => absurd hs h) ((hc.at hr).agrees.idle_holders ho) ho hq, fun _ => ?_,
      fun g hg' => by rw [hg] at hg'; cases hg'⟩
    rw [show (q.amend r).occupancy = r.occupancy from rfl, ho]
    trivial
  · by_cases hy : r.group = some y
    · refine .inr (groups_unbound hc hr hy ?_)
      rw [hy]
      exact (Device.group_setGroup ..).trans (if_pos rfl)
    · exact .inl ⟨group_unbindGroup_ne (d := d.putRecord e (q.amend r)) hy, fun b => group_unchanged_of_ne hc hr hy⟩

/-- AMEND that names the entry's present group (R15). -/
theorem steady_amendSame (hr : d.entry e = some r) (he : e ≠ 0) {q : RecordParams} {s : SteerParams} (hs : q.steer = some s)
    (hsh : q.sharing = .exclusiveOnly) (hg : r.group = some s.group) (ho : r.occupancy = .idle) (hq : r.queue = []) {b : Binding}
    (hb : b.entry = e) :
    Steady d ((d.putRecord e (q.amend r)).setGroup s.group { d.group s.group with binding := some b }) := by
  have hg' : (q.amend r).group = some s.group := by simp [RecordParams.amend, hs]
  refine ⟨(keeps_amend hr he q).trans (keeps_setGroup_bound _ _ fun b' hb' => ?_), calm_amend hr q rfl rfl rfl fun hc => ?_⟩
  · cases hb'
    rw [hb]
    exact he
  · have hh := (hc.at hr).agrees.idle_holders ho
    have hw := (hc.at hr).steered s.group hg
    have hno : ∀ y, y ∉ (q.amend r).holders := fun y hy => by
      rw [show (q.amend r).holders = [] from hh] at hy; cases hy
    have hidle : (q.amend r).occupancy = .idle := ho
    refine consistent_steer hc hr hg hg' (agrees_amend (fun _ => hsh) hh ho hq) ⟨⟨b, rfl, hb⟩, hw.switching, hw.faulted,
      fun y hy => absurd hy (hno y), fun b' t n _ ht => absurd (hidle.symm.trans ht) (by simp)⟩ fun hu => ?_
    obtain ⟨b', hb', -⟩ := hw.bound
    rw [(hc.group s.group).unbound.mpr hu] at hb'
    cases hb'

/-- AMEND that names another group, which is not bound (R15). -/
theorem steady_amendOther (hr : d.entry e = some r) (he : e ≠ 0) {q : RecordParams} {s : SteerParams} (hs : q.steer = some s)
    (hsh : q.sharing = .exclusiveOnly) (ho : r.occupancy = .idle) (hq : r.queue = []) (ht : d.groupTaken e (some s) = false) {b : Binding} (hb : b.entry = e) :
    Steady d (((d.putRecord e (q.amend r)).unbindGroup r.group).setGroup s.group ((d.group s.group).newlyBound b)) := by
  have hg' : (q.amend r).group = some s.group := by simp [RecordParams.amend, hs]
  have hent : ∀ x, (((d.putRecord e (q.amend r)).unbindGroup r.group).setGroup s.group ((d.group s.group).newlyBound b)).entry x =
      if e = x then some (q.amend r) else d.entry x := fun x => (entry_unbindGroup ..).trans (entry_putRecord ..)
  have hgrp : ∀ y, (((d.putRecord e (q.amend r)).unbindGroup r.group).setGroup s.group ((d.group s.group).newlyBound b)).group y =
      if s.group = y then (d.group s.group).newlyBound b else ((d.putRecord e (q.amend r)).unbindGroup r.group).group y :=
    fun y => Device.group_setGroup ..
  refine ⟨((keeps_amend hr he q).trans (keeps_unbindGroup ..)).trans (keeps_setGroup_bound _ _ fun b' hb' => ?_),
    calm_amend hr q (by rw [unbindGroup_eq]; rfl) (by rw [unbindGroup_eq]; rfl) (unbindGroup_agents ..) fun hc => ?_⟩
  · cases hb'
    rw [hb]
    exact he
  have hh := (hc.at hr).agrees.idle_holders ho
  refine consistent_of_local (e := e) hc (fun x hx => by rw [hent, if_neg (Ne.symm hx)]) (fun s' hs' => ?_) fun y => ?_
  · rw [hent, if_pos rfl] at hs'
    cases hs'
    refine ⟨agrees_amend (fun _ => hsh) hh ho hq, fun hn => absurd (hg'.symm.trans hn) (by simp), fun y hy => ?_⟩
    cases hg'.symm.trans hy
    rw [hgrp, if_pos rfl]
    exact agreesWith_settled rfl hb rfl ho hh
  · by_cases hy : s.group = y
    · subst hy
      refine .inr ⟨⟨?_, fun b' hb' => ?_⟩, fun b' hb' => ?_⟩
      · rw [hgrp, if_pos rfl]; exact iff_of_false (by simp [GroupRec.newlyBound]) (by simp [GroupRec.newlyBound])
      · rw [hgrp, if_pos rfl] at hb'
        cases hb'
        exact ⟨q.amend r, by rw [hent, if_pos hb.symm], hg'⟩
      · simpa [Device.groupTaken, hb'] using ht
    · by_cases hy' : r.group = some y
      · refine .inr (groups_unbound hc hr hy' ?_)
        rw [hgrp, if_neg hy, hy']
        exact (Device.group_setGroup ..).trans (if_pos rfl)
      · exact .inl ⟨by rw [hgrp, if_neg hy, group_unbindGroup_ne hy']; rfl, fun b => group_unchanged_of_ne hc hr hy'⟩

@[simp] theorem agent_afterAmend (x y : YieldPolicy) (h : Holder) : (h.afterAmend x y).agent = h.agent := by
  unfold Holder.afterAmend; split
  · split <;> rfl
  · rfl
@[simp] theorem mode_afterAmend (x y : YieldPolicy) (h : Holder) : (h.afterAmend x y).mode = h.mode := by
  unfold Holder.afterAmend; split
  · split <;> rfl
  · rfl
@[simp] theorem ticket_afterAmend (x y : YieldPolicy) (h : Holder) : (h.afterAmend x y).ticket = h.ticket := by
  unfold Holder.afterAmend; split
  · split <;> rfl
  · rfl

/-- The policy of a record written; the control lease takes any but NONE (R5). -/
theorem steady_policy (d : Device) (e : EntryIx) {y : YieldPolicy} (hy : y ≠ .none) :
    Steady d (d.modifyEntry e fun r => { r with policy := y }) :=
  steady_modifyEntry d e (fun _ => ⟨rfl, fun y hy => .inr ⟨y, hy, rfl⟩, le_rfl, id⟩)
    (fun _ hl => ⟨hl.key, hl.origin, hl.sharing, hy, hl.defaultTerm, hl.maxTerm, hl.unboundedAllowed, hl.group, hl.lifecycle,
      hl.occupancy, hl.holders, hl.queue⟩)
    (fun _ hc hr => (hc.at hr).agrees.congr rfl rfl rfl rfl rfl)
    (fun _ _ _ => ⟨rfl, .inl rfl, fun y hy => .inl ⟨y, hy, rfl⟩⟩) fun _ _ _ => ⟨fun _ => le_rfl, fun _ => le_rfl⟩

theorem modifyEntry_modifyEntry (d : Device) (e : EntryIx) (f k : Record → Record) :
    (d.modifyEntry e f).modifyEntry e k = d.modifyEntry e fun r => k (f r) := by
  simp [Device.modifyEntry, Device.setSlot, Device.slot, Function.comp_def]

theorem steady_amendControl (p : Params) (d : Device) : Steady d (amendControl p d).1 := by
  unfold amendControl
  split
  · exact .refl d
  · exact .refl d
  · next y hy _ =>
    have h := (steady_mapEntry d 0 (f := fun r => Holder.afterAmend r.policy y) (fun _ => ticket_afterAmend _ _)
      (fun _ => agent_afterAmend _ _) (fun _ => mode_afterAmend _ _)).trans (steady_policy _ 0 (y := y) hy)
    rw [modifyEntry_modifyEntry] at h
    exact h.trans (steady_evaluate ..)

theorem steady_amendGroup (hr : d.entry e = some r) (he : e ≠ 0) {q : RecordParams}
    (hsh : q.steer ≠ none → q.sharing = .exclusiveOnly) (ho : r.occupancy = .idle) (hq : r.queue = [])
    (ht : d.groupTaken e q.steer = false) : Steady d ((d.modifyEntry e q.amend).amendGroup e r.group q.steer) := by
  rw [modifyEntry_eq_putRecord hr]
  have hent : ∀ {d' : Device}, d'.slots = (d.putRecord e (q.amend r)).slots → d'.entry e = some (q.amend r) := fun hs => by
    rw [entry_of_slots hs, entry_putRecord, if_pos rfl]
  have hidle : (q.amend r).occupancy = .idle := ho
  cases hs : q.steer with
  | none => exact steady_amendNone hr he hs ho hq
  | some s =>
    have hg' : (q.amend r).group = some s.group := by simp [RecordParams.amend, hs]
    have hex := hsh (by rw [hs]; simp)
    unfold Device.amendGroup
    dsimp only
    split
    · next hg =>
      exact (steady_amendSame hr he hs hex hg ho hq (b := d.bindingOf e s) rfl).trans
        (steady_returnHome (hent rfl) hg' (fun hc => (hc.at (hent rfl)).agrees.idle_holders hidle) hq)
    · next hg =>
      have h := steady_amendOther hr he hs hex ho hq (hs ▸ ht) (b := d.bindingOf e s) rfl
      have hslots : (((d.putRecord e (q.amend r)).unbindGroup r.group).setGroup s.group
          ((d.group s.group).newlyBound (d.bindingOf e s))).slots = (d.putRecord e (q.amend r)).slots := by
        rw [unbindGroup_eq]; rfl
      rw [bindGroup_def, group_unbindGroup_ne hg, bindingOf_unbindGroup]
      exact h.trans (steady_returnHome (hent hslots) hg' (fun hc => (hc.at (hent hslots)).agrees.idle_holders hidle) hq)

theorem steady_takeAmend (a : Agent) (p : Params) (d : Device) : Steady d (takeAmend a p d).1 := by
  unfold takeAmend
  split
  · exact .refl d
  · next e r hl =>
    split
    · exact steady_amendControl p d
    · next he =>
      split
      · exact .refl d
      · next q hq =>
        split
        · exact .refl d
        · split
          · exact .refl d
          · split
            · exact .refl d
            · next hbusy =>
              obtain ⟨ho, hqu⟩ := not_or.mp hbusy
              split
              · exact .refl d
              · next ht =>
                exact steady_amendGroup (lookup_entry hl) he (sharing_of_steer hq) (not_not.mp ho) (not_not.mp hqu)
                  (Bool.not_eq_true _ ▸ ht)

end

end Sys2Proof.Machine
end

section
/-!
PROOFS. The roster commands, the timers and the beginning of a warm reset: what they keep (R43, R58, R130, R135 to R144, R174,
R178, R179).
-/
namespace Sys2Proof.Machine

/-- The operation from `d` to `d'` keeps what every step keeps by itself, and the agreement of the whole roster. -/
structure Orderly (d d' : Device) : Prop extends Keeps d d' where
  consistent : d.Consistent → d'.Consistent
  quotas : d.Consistent → d.QuotasKept → d'.QuotasKept
  roster : d.Consistent → (∀ a e, d.RosterOn a e) → ∀ a e, d'.RosterOn a e

theorem Steady.orderly {d d' : Device} (h : Steady d d') : Orderly d d' :=
  ⟨h.toKeeps, h.consistent, h.quotas, fun hc hr a e => h.toCalm.rosterOn hc (hr a e)⟩

namespace Orderly

theorem refl (d : Device) : Orderly d d := (Steady.refl d).orderly

theorem trans {d d' d'' : Device} (h : Orderly d d') (h' : Orderly d' d'') : Orderly d d'' :=
  ⟨h.toKeeps.trans h'.toKeeps, fun hc => h'.consistent (h.consistent hc), fun hc hq => h'.quotas (h.consistent hc) (h.quotas hc hq),
    fun hc hr => h'.roster (h.consistent hc) (h.roster hc hr)⟩

end Orderly

section
variable {d d' : Device} {e : EntryIx} {a : Agent} {as : List Agent} {x : Roster}

/-! ### The roster -/

theorem orderly_depart (d : Device) (as : List Agent) (x : Roster) : Orderly d (d.depart as x) :=
  ⟨keeps_depart d as x, consistent_depart, quotas_depart, rosterOn_depart⟩

/-- An agent record written, where its quotas leave room for what is counted and its new state agrees with the roster. -/
theorem orderly_setAgent (d : Device) (a : Agent) (y : AgentRec)
    (hq : d.QuotasKept → d.sumEntries (·.load a) ≤ y.holdQuota ∧ d.sumEntries (·.waits a) ≤ y.waitQuota)
    (hr : (∀ e, d.RosterOn a e) → ∀ e, (d.setAgent a y).RosterOn a e) : Orderly d (d.setAgent a y) := by
  refine ⟨keeps_setAgent .., consistent_of_same rfl rfl, fun _ h => ?_, fun _ h b e => ?_⟩
  · rw [quotasKept_iff]
    intro b
    rw [sumEntries_of_slots (show (d.setAgent a y).slots = d.slots from rfl), sumEntries_of_slots (show (d.setAgent a y).slots = d.slots from rfl),
      Device.agent_setAgent]
    split
    · next hab => subst hab; exact hq h
    · exact quotasKept_iff.mp h b
  · by_cases hab : a = b
    · subst hab; exact hr (h a) e
    · exact rosterOn_of_same (d := d) (d' := d.setAgent a y) rfl rfl (by rw [Device.agent_setAgent, if_neg hab]) (h b e)

/-- A roster state written under which an agent may have no more than under the state before. -/
theorem orderly_setRoster (d : Device) (a : Agent) (x : Roster)
    (hx : x = .online ∨ ((d.agent a).state = .offline ∨ (d.agent a).state = .fenced)) : Orderly d (d.setRoster a x) := by
  refine orderly_setAgent d a _ (fun h => quotasKept_iff.mp h a) fun h e => ?_
  have hst : ((d.setRoster a x).agent a).state = x := by rw [agent_setRoster, if_pos rfl]
  rcases hx with hx | hx
  · refine ⟨fun hn => absurd (hst.trans hx) hn, fun hn => ?_, fun hn => absurd (hst.trans hx) hn⟩
    exact absurd (hst.trans hx) (ne_online_of_absent hn)
  · have hn := ne_online_of_absent hx
    exact rosterOn_of_gone ((h e).waitless hn) ((h e).absent hx) ((h e).untold hn)

theorem steady_evaluateHolds (d : Device) (a : Agent) : Steady d (d.evaluateHolds a) :=
  .foldl _ (fun d e => by
    split
    · split
      · exact steady_evaluate ..
      · exact .refl d
    · exact .refl d) _ _

theorem steady_bootHandOn (d : Device) (p : Prop) [Decidable p] (e : EntryIx) : Steady d (if p then d.handOn e else d) := by
  split
  · exact steady_handOn ..
  · exact .refl d

theorem orderly_takeRejoin (a : Agent) (p : Params) (d : Device) : Orderly d (takeRejoin a p d).1 := by
  unfold takeRejoin
  split
  · exact (orderly_setRoster d a .online (.inl rfl)).trans
      (((steady_evaluateHolds ..).trans (steady_bootHandOn ..)).trans (steady_closeWindow ..)).orderly
  · exact .refl d

theorem orderly_takeDetach (a : Agent) (p : Params) (d : Device) : Orderly d (takeDetach a p d).1 := by
  unfold takeDetach done
  dsimp only
  exact orderly_depart d [a] .offline

theorem orderly_takeFence (a : Agent) (p : Params) (d : Device) : Orderly d (takeFence a p d).1 := by
  unfold takeFence
  split
  · exact .refl d
  · next x _ =>
    split
    · exact .refl d
    · dsimp only
      split
      · exact .refl d
      · next hs => exact orderly_setRoster d x .fenced (.inr (.inl hs))
      · dsimp only; exact orderly_depart d [x] .fenced
      · dsimp only; exact orderly_depart d [x] .fenced

theorem orderly_takeUnfence (a : Agent) (p : Params) (d : Device) : Orderly d (takeUnfence a p d).1 := by
  unfold takeUnfence
  split
  · exact .refl d
  · next x _ =>
    split
    · next hs => exact orderly_setRoster d x .offline (.inr (.inr hs))
    · exact .refl d

theorem orderly_takeSetAgent (a : Agent) (p : Params) (d : Device) : Orderly d (takeSetAgent a p d).1 := by
  unfold takeSetAgent
  split
  · exact .refl d
  · next x hold wait cap create _ =>
    split
    · exact .refl d
    · next hn =>
      obtain ⟨hh, hw⟩ := not_or.mp hn
      refine orderly_setAgent d x _ (fun _ => ⟨?_, not_lt.mp hw⟩) fun h e => ?_
      · rw [show d.sumEntries (·.load x) = d.holdCount x + d.nonUpgradeWaits x from sumEntries_add d _ _]
        exact not_lt.mp hh
      · exact rosterOn_of_same (d := d) rfl rfl (by rw [Device.agent_setAgent, if_pos rfl]) (h e)

/-! ### ATTACH from REJOINING (R136) -/

theorem slots_closeWindow (d : Device) : d.closeWindow.slots = d.slots := by rw [closeWindow_eq]
theorem agents_closeWindow (d : Device) : d.closeWindow.agents = d.agents := by rw [closeWindow_eq]
theorem slots_clearAgentNotices (d : Device) (a : Agent) : (d.clearAgentNotices a).slots = d.slots := rfl
theorem agents_clearAgentNotices (d : Device) (a : Agent) : (d.clearAgentNotices a).agents = d.agents := rfl

/-- The device when the departure of an ATTACH from REJOINING leaves entry 0. -/
def Device.attachLeft (d : Device) (a : Agent) : Device := Device.departEntry [a] (d.setRoster a .offline) 0

/-- Entry 0 goes to the boot agent at the end of its ATTACH (R136, R151). -/
def Device.leasesTo (d : Device) (a : Agent) : Bool :=
  a = d.boot && d.leaseFree && decide (0 < (d.agent a).holdQuota)

/-- The device when the departure has left every entry, the ticket of the lease set aside. -/
def Device.attachGone (d : Device) (a : Agent) : Device :=
  (if (d.attachLeft a).leasesTo a then (d.attachLeft a).advanceTicket else d.attachLeft a).departEntries [a] allEntries.tail

/-- The device when the agent is ONLINE again. -/
def Device.attachBack (d : Device) (a : Agent) : Device :=
  (((d.attachGone a).clearAgentNotices a).setRoster a .online).closeWindow

/-- The holder record of the control lease granted to the boot agent (R151). -/
def leaseHolder (a : Agent) (t : Ticket) : Holder :=
  { agent := a, mode := .exclusive, ticket := t, priority := 3, remaining := .unbounded }

theorem attachRejoining_eq (d : Device) (a : Agent) : d.attachRejoining a =
    if (d.attachLeft a).leasesTo a then
      (((d.attachBack a).addHolder 0 (leaseHolder a (d.attachLeft a).ticket)).post 0 a .granted).evaluate 0
    else if a = (d.attachBack a).boot then (d.attachBack a).handOn 0
    else d.attachBack a := rfl

theorem steady_attachGone (d : Device) (a : Agent) : Steady (d.setRoster a .offline) (d.attachGone a) := by
  unfold Device.attachGone
  refine (steady_departEntry [a] _ 0).trans (.trans ?_ (steady_departEntries ..))
  split
  · exact steady_advanceTicket _
  · exact .refl _

theorem keeps_attachBack (d : Device) (a : Agent) : Keeps d (d.attachBack a) :=
  (((keeps_setRoster d a .offline).trans (steady_attachGone d a).toKeeps).trans (keeps_clearAgentNotices ..)).trans
    ((keeps_setRoster ..).trans (steady_closeWindow _).toKeeps)

theorem consistent_setRoster (h : d.Consistent) : (d.setRoster a x).Consistent := consistent_of_same (d := d) rfl rfl h

theorem quotas_setRoster (h : d.QuotasKept) : (d.setRoster a x).QuotasKept := by
  refine quotas_of_same (d := d) rfl (fun b => ?_) h
  rw [agent_setRoster]
  split <;> exact ⟨rfl, rfl⟩

theorem consistent_attachGone (h : d.Consistent) : (d.attachGone a).Consistent :=
  (steady_attachGone d a).consistent (consistent_setRoster h)

theorem consistent_attachBack (h : d.Consistent) : (d.attachBack a).Consistent :=
  (steady_closeWindow _).consistent (consistent_setRoster ((steady_clearAgentNotices _ a).consistent (consistent_attachGone h)))

theorem quotas_attachBack (hc : d.Consistent) (h : d.QuotasKept) : (d.attachBack a).QuotasKept := by
  have hg := consistent_attachGone (a := a) hc
  have h₁ := (steady_attachGone d a).quotas (consistent_setRoster hc) (quotas_setRoster h)
  have h₂ := (steady_clearAgentNotices _ a).quotas hg h₁
  exact (steady_closeWindow _).quotas (consistent_setRoster ((steady_clearAgentNotices _ a).consistent hg)) (quotas_setRoster h₂)

theorem slots_attachBack : (d.attachBack a).slots = (d.attachGone a).slots := by
  rw [Device.attachBack, slots_closeWindow, Device.setRoster_slots, slots_clearAgentNotices]

theorem agents_attachGone : (d.attachGone a).agents = (d.setRoster a .offline).agents := by
  unfold Device.attachGone
  refine (sameBoard_departEntries [a] _ _).agents.trans ?_
  have h := (reaches_departEntry [a] (d.setRoster a .offline) 0).agents
  split <;> exact h

theorem agent_attachBack (d : Device) (a b : Agent) :
    (d.attachBack a).agent b = if a = b then { d.agent b with state := .online } else d.agent b := by
  rw [Device.attachBack, agent_of_agents (agents_closeWindow _), agent_setRoster, agent_of_agents (agents_clearAgentNotices _ a),
    agent_of_agents agents_attachGone, agent_setRoster]
  split <;> rfl

/-- The agent that attaches has left every entry. -/
theorem gone_attachBack (hc : d.Consistent) (a : Agent) {e : EntryIx} {r : Record} (hr : (d.attachBack a).entry e = some r) :
    r.waitedBy a = false ∧ r.heldBy a = false := by
  have hst : ((d.attachGone a).agent a).state = .offline := by
    rw [agent_of_agents agents_attachGone, agent_setRoster, if_pos rfl]
  have hc₀ := consistent_setRoster (a := a) (x := .offline) hc
  have hgone : (d.attachGone a).WaitlessOn a e ∧ (d.attachGone a).AbsentOn a e := by
    unfold Device.attachGone
    have hstep : Calm (d.attachLeft a)
        (if (d.attachLeft a).leasesTo a then (d.attachLeft a).advanceTicket else d.attachLeft a) := by
      split
      · exact (steady_advanceTicket _).toCalm
      · exact .refl _
    have hc₁ := (steady_departEntry [a] (d.setRoster a .offline) 0).consistent hc₀
    have hall : allEntries = 0 :: allEntries.tail := rfl
    rcases List.mem_cons.mp (hall ▸ mem_allEntries e) with rfl | ht
    · obtain ⟨hw, hab⟩ := gone_departEntry (e := 0) hc₀ (List.mem_singleton_self a)
      have hrest := hstep.trans (steady_departEntries [a] allEntries.tail _).toCalm
      exact ⟨hrest.waitless hc₁ a 0 hw, hrest.absent hc₁ a 0 hw hab⟩
    · exact gone_departEntries (hstep.consistent hc₁) (List.mem_singleton_self a) ht
  rw [entry_of_slots slots_attachBack] at hr
  exact ⟨hgone.1 (by rw [hst]; decide) r hr, hgone.2 (.inl hst) r hr⟩

theorem rosterOn_attachBack (hc : d.Consistent) (h : ∀ b e, d.RosterOn b e) (b : Agent) (e : EntryIx) :
    (d.attachBack a).RosterOn b e := by
  by_cases hab : a = b
  · subst hab
    have hst : ((d.attachBack a).agent a).state = .online := by rw [agent_attachBack, if_pos rfl]
    exact ⟨fun hn => absurd hst hn, fun hn => absurd hst (ne_online_of_absent hn), fun hn => absurd hst hn⟩
  · have hb : ∀ {d : Device} {x}, d.RosterOn b e → (d.setRoster a x).RosterOn b e := fun {d x} h =>
      rosterOn_of_same (d := d) rfl rfl (by rw [agent_setRoster, if_neg hab]) h
    have h₁ := (steady_attachGone d a).toCalm.rosterOn (consistent_setRoster hc) (hb (h b e))
    have h₂ := (steady_clearAgentNotices _ a).toCalm.rosterOn (consistent_attachGone hc) h₁
    exact (steady_closeWindow _).toCalm.rosterOn
      (consistent_setRoster ((steady_clearAgentNotices _ a).consistent (consistent_attachGone hc))) (hb h₂)

theorem slot_departEntries {l : List EntryIx} (hl : ∀ y ∈ l, y ≠ e) (d : Device) : (d.departEntries as l).slot e = d.slot e := by
  unfold Device.departEntries
  induction l generalizing d with
  | nil => rfl
  | cons y l ih =>
    rw [List.foldl_cons, ih (fun z hz => hl z (by simp [hz])), (reaches_departEntry as d y).slots e (hl y (by simp)).symm]

theorem ne_zero_of_mem_tail : ∀ y ∈ allEntries.tail, y ≠ 0 := by
  have hall : (0 :: allEntries.tail).Nodup := List.nodup_finRange 128
  intro y hy h0
  exact (List.nodup_cons.mp hall).1 (h0 ▸ hy)

theorem slot_zero_attachBack : (d.attachBack a).slot 0 = (d.attachLeft a).slot 0 := by
  have h : (d.attachGone a).slot 0 = (d.attachLeft a).slot 0 := by
    rw [Device.attachGone, slot_departEntries ne_zero_of_mem_tail]
    split <;> rfl
  rw [← h]
  unfold Device.slot
  rw [slots_attachBack]

/-- What an entry 0 that is free for the boot agent is (R151). -/
theorem leaseFree_iff : d.leaseFree = true ↔
    ∃ r, d.entry 0 = some r ∧ r.decidable = true ∧ r.holders = [] ∧ r.queue = [] ∧ r.group = none := by
  unfold Device.leaseFree
  cases d.entry 0 with
  | none => simp
  | some r => simp [and_assoc]

theorem sum_load_attachBack (hc : d.Consistent) (a : Agent) : (d.attachBack a).sumEntries (·.load a) = 0 := by
  rw [sumEntries_eq]
  refine Finset.sum_eq_zero fun e _ => ?_
  cases hr : (d.attachBack a).entry e with
  | none => rfl
  | some r =>
    obtain ⟨hw, hh⟩ := gone_attachBack hc a hr
    exact (load_eq_zero hw).mpr hh

theorem replaces_addHolder {r : Record} (hr : d.entry e = some r) (h : Holder) :
    Replaces e r (r.withHolder h) d (d.addHolder e h) := .modifyEntry hr (·.withHolder h)

/-- A holder record with a ticket that is not 0 keeps the names sound (R24). -/
theorem namesSound_addHolder {r : Record} (hr : d.entry e = some r) {h : Holder} (ht : h.ticket ≠ 0) (hn : d.NamesSound) :
    (d.addHolder e h).NamesSound where
  tickets :=
    { counter := hn.tickets.counter
      issued := fun x s hs y hy => by
        rw [(replaces_addHolder hr h).entry] at hs
        split at hs
        · cases hs
          rcases List.mem_append.mp hy with hy | hy
          · exact hn.tickets.issued e r hr y hy
          · rw [List.mem_singleton.mp hy]; exact ht
        · exact hn.tickets.issued x s hs y hy }
  generations x := by rw [(replaces_addHolder hr h).generation]; exact hn.generations x
  keys := (replaces_addHolder hr h).keysDistinct rfl hn.keys
  notices := hn.notices

/-- The lease set aside for the boot agent, granted at the end of its ATTACH (R136). -/
theorem orderly_attachLease (hl : (d.attachLeft a).leasesTo a = true) :
    Orderly d ((d.attachBack a).addHolder 0 (leaseHolder a (d.attachLeft a).ticket)) := by
  obtain ⟨hfree, hquota⟩ := Bool.and_eq_true_iff.mp hl
  obtain ⟨r, hr, hd, hh, hq, hg⟩ := leaseFree_iff.mp (Bool.and_eq_true_iff.mp hfree).2
  have hr : (d.attachBack a).entry 0 = some r := by
    rw [← hr]; unfold Device.entry; rw [slot_zero_attachBack]
  have h := replaces_addHolder hr (leaseHolder a (d.attachLeft a).ticket)
  have hk := keeps_attachBack d a
  have hroom : 0 < ((d.attachBack a).agent a).holdQuota := by
    have := of_decide_eq_true hquota
    rw [Device.attachLeft, agent_of_agents (reaches_departEntry _ _ _).agents, agent_setRoster, if_pos rfl] at this
    rw [agent_attachBack, if_pos rfl]
    exact this
  have hon : ((d.attachBack a).agent a).state = .online := by rw [agent_attachBack, if_pos rfl]
  refine ⟨⟨⟨fun hn => namesSound_addHolder hr ?_ (hk.names hn), fun hp => le_trans (h.sum_mono le_rfl) (hk.pool hp),
    fun hqo => h.queuesOrdered id (hk.queues hqo)⟩, fun hcl => h.controlLeaseKept (fun _ hl => hl.withHolder rfl) (hk.control hcl)⟩,
    fun hc => h.consistent ?_ (staysSteered_withHolder (plain_of_decidable hd) fun g hg' => ?_) (consistent_attachBack hc),
    fun hc hq => h.quotasKept (fun b hb => ?_) (fun b => le_trans (h.sum_mono le_rfl)) (quotas_attachBack hc hq),
    fun hc hro b x => ?_⟩
  · exact (((keeps_setRoster d a .offline).trans (steady_departEntry [a] _ 0).toKeeps).names hn).tickets.counter
  · exact ((consistent_attachBack hc).at hr).agrees.withHolder (by simp [heldBy_eq_false, hh]) (by simp [waitedBy_eq_false, hq])
      (fun _ => hh) fun h => by cases h
  · rw [hg] at hg'; cases hg'
  · have hle := h.sum_le (f := (·.load b)) load_withHolder.le
    rw [show (leaseHolder a (d.attachLeft a).ticket).agent = a from rfl] at hle
    by_cases hab : a = b
    · subst hab
      rw [sum_load_attachBack hc, if_pos rfl] at hle
      omega
    · rw [if_neg hab, Nat.add_zero] at hle
      exact hle.trans hb
  · obtain ⟨hw, hab, hu⟩ := rosterOn_attachBack hc hro b x
    refine ⟨h.waitlessOn (fun _ hw => hw) hw, h.absentOn (fun hn _ hh => heldBy_withHolder hh ?_) hw hab, h.untoldOn hu⟩
    rintro rfl
    exact hn hon

theorem orderly_attachRejoining (d : Device) (a : Agent) : Orderly d (d.attachRejoining a) := by
  rw [attachRejoining_eq]
  split
  · next hl => exact (orderly_attachLease hl).trans ((steady_post ..).trans (steady_evaluate ..)).orderly
  · exact .trans ⟨keeps_attachBack d a, consistent_attachBack, quotas_attachBack, rosterOn_attachBack⟩
      (steady_bootHandOn _ (a = (d.attachBack a).boot) 0).orderly

theorem orderly_takeAttach (a : Agent) (p : Params) (d : Device) : Orderly d (takeAttach a p d).1 := by
  unfold takeAttach
  split
  · exact .refl d
  · exact .refl d
  · exact (orderly_setRoster d a .online (.inl rfl)).trans (steady_bootHandOn ..).orderly
  · dsimp only; exact orderly_attachRejoining d a

end

end Sys2Proof.Machine
end

section
/-!
PROOFS. Timers and the beginning of a warm reset (R43, R45, R58, R130, R174), and with them every operation of a command or an
event on a live part: each is orderly.
-/
namespace Sys2Proof.Machine

/-! ### Every record changed alike -/

/-- `d'` has each record of `d` changed by `f`. -/
structure MapsRecords (f : Record → Record) (d d' : Device) : Prop where
  entry : ∀ e, d'.entry e = (d.entry e).map f
  generation : ∀ e, (d'.slot e).generation = (d.slot e).generation

section
variable {d d' : Device} {f : Record → Record}

theorem MapsRecords.entry_some (h : MapsRecords f d d') {e : EntryIx} {s : Record} (hs : d'.entry e = some s) :
    ∃ r, d.entry e = some r ∧ s = f r := by
  rw [h.entry] at hs
  obtain ⟨r, hr, rfl⟩ := Option.map_eq_some_iff.mp hs
  exact ⟨r, hr, rfl⟩

theorem MapsRecords.sum_mono (h : MapsRecords f d d') {k : Record → Nat} (hk : ∀ r, k (f r) ≤ k r) :
    d'.sumEntries k ≤ d.sumEntries k :=
  sumEntries_le fun e => by
    rw [h.entry]
    cases d.entry e with
    | none => exact le_rfl
    | some r => exact hk r

/-- Every record changed to one that follows it, with the notices stamped and the bindings as they were. -/
theorem MapsRecords.keeps (h : MapsRecords f d d') (ht : d'.ticket = d.ticket) (hf : ∀ r, Record.Follows d.ticket r (f r))
    (hl : ∀ r : Record, r.IsControlLease → (f r).IsControlLease)
    (hn : ∀ e a, (d.notice e a).Stamped → (d'.notice e a).Stamped)
    (hg : ∀ g, (d'.group g).binding = (d.group g).binding) : Keeps d d' where
  names hs :=
    { tickets :=
        { counter := by rw [ht]; exact hs.tickets.counter
          issued := fun e s he y hy => by
            obtain ⟨r, hr, rfl⟩ := h.entry_some he
            rcases (hf r).tickets y hy with hy | ⟨x, hx, hy⟩ <;> rw [hy]
            · exact hs.tickets.counter
            · exact hs.tickets.issued e r hr x hx }
      generations := fun e => by rw [h.generation]; exact hs.generations e
      keys := fun e e' s s' he he' hk => by
        obtain ⟨r, hr, rfl⟩ := h.entry_some he
        obtain ⟨r', hr', rfl⟩ := h.entry_some he'
        rw [(hf r).key, (hf r').key] at hk
        exact hs.keys e e' r r' hr hr' hk
      notices := fun e a => hn e a (hs.notices e a) }
  pool := le_trans (h.sum_mono fun r => (hf r).length)
  queues hq e s he := by
    obtain ⟨r, hr, rfl⟩ := h.entry_some he
    exact (hf r).ordered (hq e r hr)
  control hc := by
    obtain ⟨r, hr, hlease⟩ := hc.entry
    exact ⟨⟨f r, by rw [h.entry, hr]; rfl, hl r hlease⟩, by rw [h.generation]; exact hc.generation,
      fun g b hb => hc.unsteered g b (hg g ▸ hb)⟩

/-- Every record and its group changed so that they go on to agree, with no more claims. -/
theorem MapsRecords.calm (h : MapsRecords f d d') (ha : d'.agents = d.agents) (hl : ∀ r, (f r).ClaimsLe r)
    (hgr : ∀ r, (f r).group = r.group)
    (hn : ∀ a, (d.agent a).state ≠ .online → ∀ e, d.notice e a = {} → d'.notice e a = {})
    (hr : d.Consistent → ∀ e r, d.entry e = some r → d'.RecordAgrees e (f r))
    (hu : ∀ g, (d'.group g).state = .unbound ↔ (d.group g).state = .unbound)
    (hg : ∀ g, (d'.group g).binding = (d.group g).binding) : Calm d d' where
  consistent hc := consistent_iff.mpr ⟨fun e s hs => by
      obtain ⟨r, hr', rfl⟩ := h.entry_some hs
      exact hr hc e r hr', fun g => by
      obtain ⟨hub, hb⟩ := hc.group g
      refine ⟨by rw [hg, hu]; exact hub, fun b hb' => ?_⟩
      obtain ⟨r, hr', hrg⟩ := hb b (hg g ▸ hb')
      exact ⟨f r, by rw [h.entry, hr']; rfl, (hgr r).trans hrg⟩⟩
  quotas _ hq := by
    rw [quotasKept_iff] at hq ⊢
    intro a
    rw [agent_of_agents ha]
    exact ⟨(h.sum_mono fun r => (hl r).load a).trans (hq a).1, (h.sum_mono fun r => (hl r).waits a).trans (hq a).2⟩
  waitless _ a e hw hst s hs := by
    obtain ⟨r, hr', rfl⟩ := h.entry_some hs
    rw [agent_of_agents ha] at hst
    exact (hl r).waitedBy (hw hst r hr')
  absent _ a e hw hab hst s hs := by
    obtain ⟨r, hr', rfl⟩ := h.entry_some hs
    rw [agent_of_agents ha] at hst
    exact (hl r).heldBy (hw (ne_online_of_absent hst) r hr') (hab hst r hr')
  untold _ a e h hst := by
    rw [agent_of_agents ha] at hst
    exact hn a hst e (h hst)

/-! ### The term tick (R43, R45) -/

theorem mapsRecords_tabulate {d d' : Device}
    (h : d'.slots = tabulate fun e => { d.slot e with record := (d.slot e).record.map f }) : MapsRecords f d d' := by
  constructor <;> intro e <;> simp only [Device.entry, Device.slot, h, tget_tabulate]

theorem mapsRecords_tick (d : Device) : MapsRecords Record.tick d d.tick := mapsRecords_tabulate rfl

theorem group_tick (d : Device) (g : GroupIx) :
    d.tick.group g = { d.group g with phase := (d.group g).phase.map Phase.tick } := tget_tabulate ..

theorem phase_of_tick {x : Option Phase} {n : Nat} (h : x.map Phase.tick = some (.requesting n)) : ∃ m, x = some (.requesting m) := by
  obtain ⟨y, rfl, hy⟩ := Option.map_eq_some_iff.mp h
  cases y with
  | deferred => cases hy
  | requesting m => exact ⟨m, rfl⟩

theorem steady_tick (d : Device) : Steady d d.tick := by
  have h := mapsRecords_tick d
  refine ⟨h.keeps rfl (fun r => follows_map (fun _ => rfl) (fun _ => rfl) fun _ => rfl)
    (fun r hl => hl.map (fun _ => rfl) fun _ => rfl) (fun _ _ hs => hs) fun g => by rw [group_tick], ?_⟩
  refine h.calm rfl (fun r => claimsLe_map (fun _ => rfl) (fun _ => rfl) fun _ => rfl) (fun _ => rfl) (fun _ _ _ h => h)
    (fun hc e r hr => ?_) (fun g => by rw [group_tick]) fun g => by rw [group_tick]
  obtain ⟨ha, hu, hst⟩ := hc.at hr
  refine ⟨ha.map (fun _ => rfl) (fun _ => rfl) (fun _ => rfl) (fun _ => rfl) fun _ _ => .inl, hu, fun g hg => ?_⟩
  have hw := hst g hg
  rw [group_tick]
  refine ⟨hw.bound, hw.switching, hw.faulted, fun y hy => ?_, fun b t n hb ht hn => ?_⟩
  · obtain ⟨x, hx, rfl⟩ := List.mem_map.mp hy
    exact hw.selects x hx
  · obtain ⟨m, hm⟩ := phase_of_tick hn
    exact hw.driven b t m hb ht hm

/-! ### The beginning of a warm reset (R174) -/

theorem mapsRecords_warmBegin (d : Device) : MapsRecords Record.warm d d.warmBegin := mapsRecords_tabulate rfl

theorem group_warmBegin (d : Device) (g : GroupIx) : d.warmBegin.group g = (d.group g).warm := tget_tabulate ..

theorem notice_warmBegin (d : Device) (e : EntryIx) (a : Agent) : d.warmBegin.notice e a = {} :=
  (congrArg (fun v => tget v a) (tget_replicate ..)).trans (tget_replicate ..)

theorem binding_warm (x : GroupRec) : x.warm.binding = x.binding := by unfold GroupRec.warm; split <;> rfl
theorem select_warm (x : GroupRec) : x.warm.select = x.select := by unfold GroupRec.warm; split <;> rfl
theorem state_warm (x : GroupRec) : x.warm.state = if x.state = .switching then .settled else x.state := by
  unfold GroupRec.warm; split <;> rfl

theorem follows_warm {t : Ticket} {r : Record} : Record.Follows t r r.warm where
  key := rfl
  tickets y hy := by
    obtain ⟨x, hx, rfl⟩ := List.mem_map.mp hy
    exact .inr ⟨x, hx, rfl⟩
  length := Nat.zero_le _
  ordered _ := queueOrdered_nil

theorem occupancy_warm (r : Record) : (r.isSwitching = true ∧ r.warm.occupancy = .idle) ∨ r.warm.occupancy = r.occupancy := by
  unfold Record.isSwitching
  cases ho : r.occupancy <;> simp [Record.warm, ho]

theorem isSwitching_warm (r : Record) : r.warm.isSwitching = false := by
  unfold Record.isSwitching
  cases ho : r.occupancy <;> simp [Record.warm, ho]

theorem claimsLe_warm (r : Record) : r.warm.ClaimsLe r := by
  have h := (claimsLe_subqueue (r := { r with holders := r.holders.map fun h => { h with asked := false, grace := none }, queue := r.queue.map id })
    (List.nil_sublist _)).trans (claimsLe_map (fun _ => rfl) (fun _ => rfl) fun _ => rfl)
  exact ⟨h.load, h.waits⟩

theorem recordAgrees_warm {d : Device} {e : EntryIx} {r : Record} (h : d.RecordAgrees e r) :
    d.warmBegin.RecordAgrees e r.warm := by
  obtain ⟨ha, hu, hst⟩ := h
  refine ⟨ha.warm, fun hg => ?_, fun g hg => ?_⟩
  · have hp := hu hg
    rcases occupancy_warm r with ⟨-, ho⟩ | ho <;> rw [ho]
    · trivial
    · exact hp
  · have hw := hst g hg
    rw [group_warmBegin]
    refine ⟨by rw [binding_warm]; exact hw.bound, iff_of_false (by rw [isSwitching_warm]; simp) ?_, ?_, fun y hy => ?_,
      fun b t n _ ht => ?_⟩
    · rw [state_warm]; split <;> simp_all
    · rw [state_warm]
      rcases occupancy_warm r with ⟨hs, ho⟩ | ho <;> rw [ho]
      · rw [if_pos (hw.switching.mp hs)]; simp
      · rw [hw.faulted]; split <;> simp_all
    · obtain ⟨x, hx, rfl⟩ := List.mem_map.mp hy
      rw [select_warm]; exact hw.selects x hx
    · have := isSwitching_warm r
      simp [Record.isSwitching, ht] at this

theorem steady_warmBegin (d : Device) : Steady d d.warmBegin := by
  have h := mapsRecords_warmBegin d
  refine ⟨h.keeps rfl (fun r => follows_warm) (fun r hl => hl.warm) (fun e a _ => by rw [notice_warmBegin]; exact stamped_empty)
    fun g => by rw [group_warmBegin, binding_warm], ?_⟩
  refine h.calm rfl claimsLe_warm (fun _ => rfl) (fun a _ e _ => notice_warmBegin d e a) (fun hc e r hr => recordAgrees_warm (hc.at hr))
    (fun g => ?_) fun g => by rw [group_warmBegin, binding_warm]
  rw [group_warmBegin, state_warm]
  split <;> simp_all

/-! ### Expiries (R50, R69, R91, R179) -/

theorem held_of_named {d : Device} {e : EntryIx} {a : Agent} {t : Ticket} {h : Holder} (hn : d.named e a t = some h) :
    ∃ r, d.entry e = some r ∧ r.heldBy a = true := by
  obtain ⟨r, hr, hf⟩ := Option.bind_eq_some_iff.mp hn
  have hp := List.find?_some hf
  simp only [Bool.decide_and, Bool.and_eq_true, decide_eq_true_eq] at hp
  exact ⟨r, hr, heldBy_iff.mpr (List.mem_map.mpr ⟨h, List.mem_of_find?_eq_some hf, hp.1⟩)⟩

theorem steady_termExpires (d : Device) (e : EntryIx) (a : Agent) (t : Ticket) : Steady d (d.termExpires e a t) := by
  unfold Device.termExpires
  split
  · exact .refl d
  · next h hn =>
    split
    · obtain ⟨r, hr, hh⟩ := held_of_named hn
      exact ((steady_endGrant_held hr hh).trans (steady_post ..)).trans (steady_handOn ..)
    · exact .refl d

theorem steady_waitExpires (d : Device) (e : EntryIx) (a : Agent) : Steady d (d.waitExpires e a) := by
  unfold Device.waitExpires
  split
  · exact .refl d
  · split
    · exact ((steady_removeCell ..).trans (steady_post ..)).trans (steady_handOn ..)
    · exact .refl d

theorem steady_graceExpires (d : Device) (e : EntryIx) (a : Agent) (t : Ticket) : Steady d (d.graceExpires e a t) := by
  unfold Device.graceExpires
  split
  · exact .refl d
  · next h hn =>
    split
    · obtain ⟨r, hr, hh⟩ := held_of_named hn
      exact steady_revoke hr hh
    · exact .refl d

theorem orderly_takeIssued (d : Device) (x : Expiry) {f : Device → Device} (hf : ∀ d, Orderly d (f d)) :
    Orderly d (d.takeIssued x f) := by
  unfold Device.takeIssued
  split
  · exact (steady_of_board rfl rfl rfl rfl rfl : Steady d { d with issued := d.issued.erase x }).orderly.trans (hf _)
  · exact .refl d

theorem orderly_agentReset (d : Device) (a : Agent) : Orderly d (d.agentReset a) := by
  unfold Device.agentReset
  dsimp only
  split
  · exact (steady_setChan ..).orderly.trans (orderly_depart _ [a] .offline)
  · exact (steady_setChan ..).orderly.trans (orderly_depart _ [a] .offline)
  · exact (steady_setChan ..).orderly
  · exact (steady_setChan ..).orderly

/-! ### Transactions and commands -/

theorem steady_abort (d : Device) (ch : Agent) : Steady d (d.abort ch) := by
  unfold Device.abort
  split
  · split
    · exact .refl d
    · split
      · exact .refl d
      · exact ((steady_finish ..).trans (steady_removeCell ..)).trans (steady_handOn ..)
  · exact .refl d

theorem steady_ack (d : Device) (ch : Agent) : Steady d (d.ack ch) := by
  unfold Device.ack
  split
  · exact steady_setChan ..
  · exact .refl d

theorem steady_applyWrites (d : Device) (ch : Agent) (w : Writes) : Steady d (d.applyWrites ch w) := by
  unfold Device.applyWrites
  dsimp only
  refine (steady_setChan d ch ((d.chan ch).writeRegisters w)).trans ?_
  split <;> split
  · exact (steady_abort ..).trans (steady_ack ..)
  · exact steady_ack ..
  · exact steady_abort ..
  · exact .refl _

theorem steady_manyTriggers (d : Device) (ch : Agent) : Steady d (d.manyTriggers ch) := by
  unfold Device.manyTriggers
  split <;> exact steady_setChan ..

/-- A rule that keeps what every step keeps, in whatever state the attach check lets it act on (R162). -/
def Take.Orderly (c : Cmd) (t : Take) : Prop :=
  ∀ a p d, attachCheck c (d.agent a).state = none → Machine.Orderly d (t a p d).1

theorem orderly_writeBack {d : Device} {x : Device × Option Results} (h : Orderly d x.1) (ch : Agent) (c : Cmd) :
    Orderly d (writeBack ch c x) := by
  unfold writeBack
  split
  · exact h.trans (steady_finish ..).orderly
  · exact h

theorem orderly_trigger {c : Cmd} {t : Take} (ht : Take.Orderly c t) (d : Device) (ch : Agent) : Orderly d (d.trigger ch c t) := by
  unfold Device.trigger
  split
  · unfold Device.runCommand
    refine (steady_setChan d ch ((d.chan ch).start c)).orderly.trans (orderly_writeBack ?_ ch c)
    unfold Device.judge
    split
    · exact .refl _
    · next ha =>
      split
      · exact .refl _
      · exact ht ch _ _ ha
  · exact (steady_setChan ..).orderly

theorem orderly_commandWrite {c : Cmd} {t : Take} (ht : Take.Orderly c t) (ch : Agent) (w : Writes) (d : Device) :
    Orderly d (commandWrite c t ch w d) := by
  unfold commandWrite
  split
  · exact .refl d
  · split
    · exact (steady_applyWrites ..).orderly.trans (orderly_trigger ht ..)
    · exact ((steady_applyWrites ..).trans (steady_manyTriggers ..)).orderly

theorem steady_takeWarmReset (a : Agent) (p : Params) (d : Device) : Steady d (takeWarmReset a p d).1 :=
  (steady_warmBegin d).trans (steady_of_board rfl rfl rfl rfl rfl)

theorem attachCheck_request {x : Roster} (h : attachCheck .request x = none) : x = .online := by
  cases x <;> simp [attachCheck] at h ⊢

/-- Every command of the part. -/
theorem orderly_takeOf (c : Cmd) : Take.Orderly c (takeOf c) := by
  intro a p d ha
  cases c with
  | attach => exact orderly_takeAttach a p d
  | detach => exact orderly_takeDetach a p d
  | rejoin => exact orderly_takeRejoin a p d
  | openEntry => exact (steady_takeOpen a p d).orderly
  | query => exact (steady_takeQuery a p d).orderly
  | request => exact (steady_takeRequest a p d (attachCheck_request ha)).orderly
  | release => exact (steady_takeRelease a p d).orderly
  | renew => exact (steady_takeRenew a p d).orderly
  | downgrade => exact (steady_takeDowngrade a p d).orderly
  | cancel => exact (steady_takeCancel a p d).orderly
  | check => exact (steady_takeCheck a p d).orderly
  | takeNotice => exact (steady_takeTakeNotice a p d).orderly
  | retire => exact (steady_takeRetire a p d).orderly
  | define => exact (steady_takeDefine a p d).orderly
  | amend => exact (steady_takeAmend a p d).orderly
  | forceRelease => exact (steady_takeForceRelease a p d).orderly
  | fence => exact orderly_takeFence a p d
  | unfence => exact orderly_takeUnfence a p d
  | setAgent => exact orderly_takeSetAgent a p d
  | configure => exact (steady_takeConfigure a p d).orderly
  | clearFault => exact (steady_takeClearFault a p d).orderly
  | warmReset => exact (steady_takeWarmReset a p d).orderly

theorem orderly_linkWrite (ch : Agent) (w : Writes) (d : Device) : Orderly d (linkWrite ch w d) := by
  unfold linkWrite
  split
  · exact .refl d
  · split
    · exact (steady_applyWrites ..).orderly
    · next c _ => exact (steady_applyWrites ..).orderly.trans (orderly_trigger (orderly_takeOf c) ..)
    · exact ((steady_applyWrites ..).trans (steady_manyTriggers ..)).orderly

end

end Sys2Proof.Machine
end

section
/-!
PROOFS. What a step comes to: the part lost or reset cold, a warm reset begun or released, an event on a live part, or pins
alone (R172 to R176).
-/
namespace Sys2Proof.Machine

/-- The owner's part of an expiry (R50, R69, R91, R123, R179). -/
def Expiry.taken : Expiry → Device → Device
  | .term e a t => fun d => d.termExpires e a t
  | .wait e a => fun d => d.waitExpires e a
  | .grace e a t => fun d => d.graceExpires e a t
  | .switch g => fun d => d.switchExpires g
  | .window => Device.windowExpires

/-- The events of a live part, with the levels on the pins before and after. -/
inductive LiveEvent (p : Pins) : Pins → (Device → Device) → Prop where
  | command (c : Cmd) (ch : Agent) (w : Writes) : LiveEvent p p (commandWrite c (takeOf c) ch w)
  | link (ch : Agent) (w : Writes) : LiveEvent p p (linkWrite ch w)
  | agrstFall (a : Agent) :
      LiveEvent p { p with agrstLow := tset p.agrstLow a true } fun d => d.agentReset a
  | agrstRise (a : Agent) :
      LiveEvent p { p with agrstLow := tset p.agrstLow a false } fun d => d.agentUnreset a
  | stdoneRise (g : GroupIx) : LiveEvent p { p with stdoneHigh := tset p.stdoneHigh g true } fun d => d.stdoneRise g
  | stdoneFall (g : GroupIx) : LiveEvent p { p with stdoneHigh := tset p.stdoneHigh g false } fun d => d.stdoneFall g
  | tick : LiveEvent p p Device.tick
  | refclk : LiveEvent p p Device.refclk
  | expiry (x : Expiry) : LiveEvent p p fun d => d.takeIssued x x.taken

/-- What a step from `s` comes to in `t`. -/
inductive Effect (s t : State) : Prop where
  /-- The retention supply is absent, and the part with it. -/
  | lost (h : t.dev = none)
  | cold (b : Agent) (hp : t.pins = s.pins) (h : t.dev = some (.cold b s.pins))
  /-- Levels on the pins alone, or none. -/
  | idle (hd : t.dev = s.dev) (hh : t.held = s.held) (ha : s.held = false → t.pins = s.pins)
  | live (d : Device) (f : Device → Device) (hl : Live s d) (he : LiveEvent s.pins t.pins f) (ht : t.dev = some (f d))
  /-- A warm reset begins (R174). -/
  | begins (d : Device) (hl : Live s d) (ht : t.dev = some d.warmBegin) (hh : t.held = true)
  /-- The command's cause ends while another holds the warm reset (R173). -/
  | uncaused (d : Device) (hs : s.dev = some d) (hh : s.held = true) (ht : t.dev = some { d with cmdReset := false })
      (hh' : t.held = true)
  /-- The last cause of a warm reset ends (R176). -/
  | releases (d : Device) (hs : s.dev = some d) (hh : s.held = true)
      (ht : t.dev = some (({ d with cmdReset := false } : Device).warmRelease t.pins)) (hh' : t.held = false)

section
variable {s t : State}

theorem held_eq {p : Pins} (hp : p.holdsReset = s.pins.holdsReset) (q : List Instr) :
    ({ pins := p, dev := s.dev, pending := q } : State).held = s.held := by
  simp only [State.held, hp]

/-- An event that the part takes only while it is live. -/
theorem effect_onLive {p : Pins} {f : Device → Device} (he : LiveEvent s.pins p f) (hp : p.holdsReset = s.pins.holdsReset)
    (h : ({ s with pins := p } : State).onLive f = .next t) : Effect s t := by
  have hheld : ({ s with pins := p } : State).held = s.held := held_eq hp s.pending
  unfold State.onLive at h
  dsimp only at h
  split at h
  · next hd => cases h; exact .lost hd
  · next d hd =>
    rw [hheld] at h
    split at h
    · next hh => cases h; exact .idle rfl hheld fun hf => by rw [hh] at hf; cases hf
    · next hh =>
      cases h
      exact .live d f ⟨hd, by simpa using hh⟩ he rfl

/-- An event that comes with no edge on a pin. -/
theorem effect_onLive_same {f : Device → Device} (he : LiveEvent s.pins s.pins f) (h : s.onLive f = .next t) : Effect s t :=
  effect_onLive (p := s.pins) he rfl h

/-- Nothing happens. -/
theorem effect_refl (h : (.next s : Host.Outcome State Fault Refusal) = .next t) : Effect s t := by
  cases h; exact .idle rfl rfl fun _ => rfl

theorem holdsReset_setCause (p : Pins) (c : PinCause) : (p.setCause c true).holdsReset = true := by
  cases c <;> simp [Pins.setCause, Pins.holdsReset]

theorem held_of_holdsReset (h : s.pins.holdsReset = true) : s.held = true := by simp [State.held, h]

theorem holdsReset_of_cause {p : Pins} {c : PinCause} (h : p.cause c = true) : p.holdsReset = true := by
  cases c <;> simp_all [Pins.cause, Pins.holdsReset]

theorem effect_warmResetBegin {c : PinCause} (h : execWarmResetBegin c s = .next t) : Effect s t := by
  unfold execWarmResetBegin at h
  split at h
  · exact effect_refl h
  · cases h
    have hh : ∀ x, ({ s with pins := s.pins.setCause c true, dev := x } : State).held = true := fun x =>
      held_of_holdsReset (holdsReset_setCause ..)
    cases hs : s.held with
    | true =>
      refine .idle (by simp) ?_ fun hf => by rw [hs] at hf; cases hf
      rw [hs]; exact hh _
    | false =>
      cases hd : s.dev with
      | none => exact .lost (by simp)
      | some d => exact .begins d ⟨hd, hs⟩ (by simp) (hh _)

/-- A state whose part has no cause of its own. -/
theorem cmdReset_of_not_held {d : Device} (hd : s.dev = some d) (hh : s.held = false) :
    d = { d with cmdReset := false } := by
  have : d.cmdReset = false := by
    simp only [State.held, hd, Bool.or_eq_false_iff] at hh
    exact hh.2
  conv_rhs => rw [← this]

/-- The devices that a release passes through (R176). -/
def Device.releaseDeparted (d : Device) (p : Pins) : Device :=
  (d.leaveReset p).depart (allAgents.filter fun a => d.departsAtRelease p a) .offline

def Device.releaseDrained (d : Device) (p : Pins) : Device := allEntries.foldl Device.checkDrain (d.releaseDeparted p)

theorem warmRelease_eq (d : Device) (p : Pins) : d.warmRelease p =
    { d.releaseDrained p with issued := (d.releaseDrained p).issued ++ (d.releaseDrained p).expiredHolders } := rfl

theorem sameBoard_drained (d : Device) (l : List EntryIx) : SameBoard d (l.foldl Device.checkDrain d) :=
  .foldl _ (fun d e => (onlyEntry_checkDrain d e).reaches.board) l d

/-- A release leaves the command's cause of a warm reset as it was. -/
theorem cmdReset_warmRelease (d : Device) (p : Pins) : (d.warmRelease p).cmdReset = d.cmdReset := by
  rw [warmRelease_eq]
  dsimp only
  rw [Device.releaseDrained, (sameBoard_drained (d.releaseDeparted p) allEntries).cmdReset, Device.releaseDeparted, cmdReset_depart]
  rfl

theorem held_released {d : Device} {p : Pins} (q : List Instr) (hp : p.holdsReset = false) :
    ({ pins := p, dev := some (({ d with cmdReset := false } : Device).warmRelease p), pending := q } : State).held = false := by
  simp only [State.held, hp, cmdReset_warmRelease, Bool.or_self]

theorem effect_release_pin {c : PinCause} (h : execWarmResetRelease (.pin c) s = .next t) : Effect s t := by
  unfold execWarmResetRelease at h
  dsimp only at h
  split at h
  · next hc =>
    have hs : s.held = true := held_of_holdsReset (holdsReset_of_cause hc)
    cases h
    unfold State.afterCause
    split
    · next hh => exact .idle rfl (hh.trans hs.symm) fun hf => by rw [hs] at hf; cases hf
    · next hh =>
      cases hd : s.dev with
      | none => exact .lost (by simp)
      | some d =>
        have hh : ({ s with pins := s.pins.setCause c false } : State).held = false := by simpa using hh
        have hd' := cmdReset_of_not_held (s := { s with pins := s.pins.setCause c false }) hd hh
        have hp : (s.pins.setCause c false).holdsReset = false := (Bool.or_eq_false_iff.mp hh).1
        refine .releases d hd hs (by simp only [Option.map_some, ← hd']) ?_
        have hr := held_released (d := d) s.pending hp
        rw [← hd'] at hr
        exact hr
  · exact effect_refl h

theorem effect_release_command (h : execWarmResetRelease .command s = .next t) : Effect s t := by
  unfold execWarmResetRelease at h
  dsimp only at h
  split at h
  · next hd => cases h; exact .lost hd
  · next d hd =>
    split at h
    · next hc =>
      have hs : s.held = true := by simp [State.held, hd, hc]
      cases h
      unfold State.afterCause
      split
      · next hh => exact .uncaused d hd hs rfl hh
      · next hh =>
        have hp : s.pins.holdsReset = false := by
          simp only [State.held, Bool.or_eq_true, not_or, Bool.not_eq_true] at hh
          exact hh.1
        exact .releases d hd hs rfl (held_released s.pending hp)
    · exact effect_refl h

/-- A row of the table. -/
theorem effect_exec {i : Instr} (h : exec i s = .next t) : Effect s t := by
  cases i with
  | attach ch w => exact effect_onLive_same (.command .attach ch w) h
  | detach ch w => exact effect_onLive_same (.command .detach ch w) h
  | rejoin ch w => exact effect_onLive_same (.command .rejoin ch w) h
  | openEntry ch w => exact effect_onLive_same (.command .openEntry ch w) h
  | query ch w => exact effect_onLive_same (.command .query ch w) h
  | request ch w => exact effect_onLive_same (.command .request ch w) h
  | release ch w => exact effect_onLive_same (.command .release ch w) h
  | renew ch w => exact effect_onLive_same (.command .renew ch w) h
  | downgrade ch w => exact effect_onLive_same (.command .downgrade ch w) h
  | cancel ch w => exact effect_onLive_same (.command .cancel ch w) h
  | check ch w => exact effect_onLive_same (.command .check ch w) h
  | takeNotice ch w => exact effect_onLive_same (.command .takeNotice ch w) h
  | retire ch w => exact effect_onLive_same (.command .retire ch w) h
  | define ch w => exact effect_onLive_same (.command .define ch w) h
  | amend ch w => exact effect_onLive_same (.command .amend ch w) h
  | forceRelease ch w => exact effect_onLive_same (.command .forceRelease ch w) h
  | fence ch w => exact effect_onLive_same (.command .fence ch w) h
  | unfence ch w => exact effect_onLive_same (.command .unfence ch w) h
  | setAgent ch w => exact effect_onLive_same (.command .setAgent ch w) h
  | configure ch w => exact effect_onLive_same (.command .configure ch w) h
  | clearFault ch w => exact effect_onLive_same (.command .clearFault ch w) h
  | warmReset ch w => exact effect_onLive_same (.command .warmReset ch w) h
  | multipleTriggers ch w => exact effect_onLive_same (.link ch w) h
  | ack ch w => exact effect_onLive_same (.link ch _) h
  | abort ch w => exact effect_onLive_same (.link ch _) h
  | attnenWrite ch v w => exact effect_onLive_same (.link ch _) h
  | viewpageWrite ch v w => exact effect_onLive_same (.link ch _) h
  | registerWrite ch start data => exact effect_onLive_same (.link ch _) h
  | agrstFall a =>
    simp only [exec, execAgrstFall] at h
    split at h
    · exact effect_refl h
    · exact effect_onLive (.agrstFall a) rfl h
  | agrstRise a =>
    simp only [exec, execAgrstRise] at h
    split at h
    · exact effect_onLive (.agrstRise a) rfl h
    · exact effect_refl h
  | settle g | stdoneRise g =>
    simp only [exec, execSettle, execStdoneRise, riseOf] at h
    split at h
    · exact effect_refl h
    · exact effect_onLive (.stdoneRise g) rfl h
  | stdoneFall g =>
    simp only [exec, execStdoneFall] at h
    split at h
    · exact effect_onLive (.stdoneFall g) rfl h
    · exact effect_refl h
  | warmResetBegin c => exact effect_warmResetBegin h
  | warmResetRelease c =>
    cases c with
    | pin k => exact effect_release_pin h
    | command => exact effect_release_command h
  | coldReset b => cases h; exact .cold b.toFin rfl rfl
  | termTick => exact effect_onLive_same .tick h
  | termExpiry e a k => exact effect_onLive_same (.expiry (.term e a k)) h
  | waitLimitExpiry e a => exact effect_onLive_same (.expiry (.wait e a)) h
  | graceExpiry e a k => exact effect_onLive_same (.expiry (.grace e a k)) h
  | switchTimeout g => exact effect_onLive_same (.expiry (.switch g)) h
  | windowExpiry => exact effect_onLive_same (.expiry .window) h
  | retentionSupplyLoss => cases h; exact .lost rfl

/-- What a step comes to does not depend on the queue of commands. -/
theorem Effect.of_pending {q : List Instr} (h : Effect { s with pending := q } t) : Effect s t := by
  have hheld : ({ s with pending := q } : State).held = s.held := rfl
  cases h with
  | lost h => exact .lost h
  | cold b hp h => exact .cold b hp h
  | idle hd hh ha => exact .idle hd hh ha
  | live d f hl he ht => exact .live d f ⟨hl.dev, hl.free⟩ he ht
  | begins d hl ht hh => exact .begins d ⟨hl.dev, hl.free⟩ ht hh
  | uncaused d hs hh ht hh' => exact .uncaused d hs hh ht hh'
  | releases d hs hh ht hh' => exact .releases d hs hh ht hh'

theorem effect_step (h : step s = .next t) : Effect s t := by
  unfold step at h
  split at h
  · exact (effect_exec h).of_pending
  · split at h
    · exact effect_exec h
    · exact effect_onLive_same .refclk h

end

end Sys2Proof.Machine
end

section
/-!
PROOFS. What every step keeps by itself (R5, R6, R7, R24, R58, R61, R114, R167), and the device after a cold reset (R20).
-/
namespace Sys2Proof.Machine

/-! ### Live events -/

theorem orderly_taken (x : Expiry) (d : Device) : Orderly d (x.taken d) := by
  cases x with
  | term e a t => exact (steady_termExpires d e a t).orderly
  | wait e a => exact (steady_waitExpires d e a).orderly
  | grace e a t => exact (steady_graceExpires d e a t).orderly
  | switch g => exact (steady_switchExpires d g).orderly
  | window => exact orderly_depart d _ .offline

theorem orderly_liveEvent {p p' : Pins} {f : Device → Device} (h : LiveEvent p p' f) (d : Device) : Orderly d (f d) := by
  cases h with
  | command c ch w => exact orderly_commandWrite (orderly_takeOf c) ch w d
  | link ch w => exact orderly_linkWrite ch w d
  | agrstFall a => exact orderly_agentReset d a
  | agrstRise a => exact (steady_setChan ..).orderly
  | stdoneRise g => exact (steady_stdoneRise d g).orderly
  | stdoneFall g => exact (steady_stdoneFall d g).orderly
  | tick => exact (steady_tick d).orderly
  | refclk => exact (steady_of_board rfl rfl rfl rfl rfl : Steady d d.refclk).orderly
  | expiry x => exact orderly_takeIssued d x (orderly_taken x)

/-! ### The release of a warm reset -/

section
variable {d d' : Device}

/-- The STDONE levels written, and fields that do not bear on records and groups (R113, R176). -/
theorem keeps_of_stdone (hs : d'.slots = d.slots) (hn : d'.notices = d.notices) (ht : d'.ticket = d.ticket)
    (hg : ∀ g, ∃ v, d'.group g = { d.group g with stdone := v }) : Keeps d d' where
  names h :=
    { tickets := ⟨by rw [ht]; exact h.tickets.counter, fun e r hr => h.tickets.issued e r (by rw [← entry_of_slots hs, hr])⟩
      generations := fun e => by unfold Device.slot; rw [hs]; exact h.generations e
      keys := fun e e' r r' hr hr' => h.keys e e' r r' (by rw [← entry_of_slots hs, hr]) (by rw [← entry_of_slots hs, hr'])
      notices := fun e a => by unfold Device.notice; rw [hn]; exact h.notices e a }
  pool := le_trans (sumEntries_of_slots hs _).le
  queues h e r hr := h e r (by rw [← entry_of_slots hs, hr])
  control h :=
    { entry := by rw [entry_of_slots hs]; exact h.entry
      generation := by unfold Device.slot; rw [hs]; exact h.generation
      unsteered := fun g b hb => by
        obtain ⟨v, hv⟩ := hg g
        rw [hv] at hb
        exact h.unsteered g b hb }

theorem consistent_of_stdone (hs : d'.slots = d.slots) (hg : ∀ g, ∃ v, d'.group g = { d.group g with stdone := v })
    (h : d.Consistent) : d'.Consistent := by
  refine consistent_iff.mpr ⟨fun e r hr => ?_, fun g => ?_⟩
  · rw [entry_of_slots hs] at hr
    obtain ⟨ha, hu, hst⟩ := h.at hr
    refine ⟨ha, hu, fun g hrg => ?_⟩
    obtain ⟨v, hv⟩ := hg g
    have hw := hst g hrg
    rw [hv]
    exact ⟨hw.bound, hw.switching, hw.faulted, hw.selects, hw.driven⟩
  · obtain ⟨hu, hb⟩ := h.group g
    obtain ⟨v, hv⟩ := hg g
    exact ⟨by rw [hv]; exact hu, fun b hb' => by rw [entry_of_slots hs]; rw [hv] at hb'; exact hb b hb'⟩

theorem group_leaveReset (d : Device) (p : Pins) (g : GroupIx) :
    (d.leaveReset p).group g = { d.group g with stdone := tget p.stdoneHigh g } := tget_tabulate ..

theorem keeps_leaveReset (d : Device) (p : Pins) : Keeps d (d.leaveReset p) :=
  keeps_of_stdone rfl rfl rfl fun g => ⟨_, group_leaveReset d p g⟩

theorem steady_releaseDrained (d : Device) (p : Pins) : Steady (d.releaseDeparted p) (d.releaseDrained p) :=
  .foldl _ steady_checkDrain _ _

/-- Expiries issued. -/
theorem steady_issue (d : Device) (l : List Expiry) : Steady d { d with issued := l } := steady_of_board rfl rfl rfl rfl rfl

theorem keeps_warmRelease (d : Device) (p : Pins) : Keeps d (d.warmRelease p) := by
  rw [warmRelease_eq]
  exact (((keeps_leaveReset d p).trans (keeps_depart ..)).trans (steady_releaseDrained d p).toKeeps).trans
    (steady_issue ..).toKeeps

theorem consistent_warmRelease (h : d.Consistent) (p : Pins) : (d.warmRelease p).Consistent := by
  rw [warmRelease_eq]
  have hl : (d.leaveReset p).Consistent := consistent_of_stdone (d := d) rfl (fun g => ⟨_, group_leaveReset d p g⟩) h
  exact (steady_issue ..).consistent ((steady_releaseDrained d p).consistent (consistent_depart hl))

end

/-! ### The cold device (R20) -/

section
variable (b : Agent) (p : Pins)

theorem entry_cold (e : EntryIx) : (Device.cold b p).entry e = if e = 0 then some .control else none := by
  unfold Device.entry Device.slot Device.cold
  rw [tget_tabulate]
  split <;> rfl

theorem generation_cold (e : EntryIx) : ((Device.cold b p).slot e).generation = 1 := by
  unfold Device.slot Device.cold
  rw [tget_tabulate]
  split <;> rfl

theorem notice_cold (e : EntryIx) (a : Agent) : (Device.cold b p).notice e a = {} := by
  simp [Device.notice, Device.cold]

theorem group_cold (g : GroupIx) : (Device.cold b p).group g = .cold (tget p.stdoneHigh g) := tget_tabulate ..

theorem agent_cold (a : Agent) : (Device.cold b p).agent a = .cold (a = b) := tget_tabulate ..

theorem chan_cold (a : Agent) : (Device.cold b p).chan a =
    if p.holdsReset || tget p.agrstLow a then .inReset else { state := .ready } := tget_tabulate ..

variable {b p}

theorem control_of_entry_cold {e : EntryIx} {r : Record} (h : (Device.cold b p).entry e = some r) : e = 0 ∧ r = .control := by
  rw [entry_cold] at h
  split at h
  · next he => exact ⟨he, (Option.some.inj h).symm⟩
  · cases h

variable (b p)

theorem namesSound_cold : (Device.cold b p).NamesSound where
  tickets :=
    { counter := by simp [Device.cold]
      issued := fun e r hr y hy => by
        obtain ⟨-, rfl⟩ := control_of_entry_cold hr
        cases hy }
  generations e := by rw [generation_cold]; decide
  keys e e' r r' hr hr' _ := (control_of_entry_cold hr).1.trans (control_of_entry_cold hr').1.symm
  notices e a := by rw [notice_cold]; exact stamped_empty

theorem sumEntries_cold {f : Record → Nat} (h : f .control = 0) : (Device.cold b p).sumEntries f = 0 := by
  rw [sumEntries_eq]
  refine Finset.sum_eq_zero fun e _ => ?_
  rw [entry_cold]
  split
  · exact h
  · rfl

theorem poolBounded_cold : (Device.cold b p).PoolBounded := by
  unfold Device.PoolBounded Device.cellsInUse
  rw [sumEntries_cold b p rfl]
  exact Nat.zero_le _

theorem queuesOrdered_cold : (Device.cold b p).QueuesOrdered := by
  intro e r hr
  obtain ⟨-, rfl⟩ := control_of_entry_cold hr
  exact queueOrdered_nil

theorem isControlLease_control : Record.control.IsControlLease := by
  constructor <;> simp [Record.control]

theorem controlLeaseKept_cold : (Device.cold b p).ControlLeaseKept where
  entry := ⟨.control, by rw [entry_cold, if_pos rfl], isControlLease_control⟩
  generation := generation_cold b p 0
  unsteered g x hx := by rw [group_cold] at hx; cases hx

theorem consistent_cold : (Device.cold b p).Consistent := by
  refine consistent_iff.mpr ⟨fun e r hr => ?_, fun g => ?_⟩
  · obtain ⟨-, rfl⟩ := control_of_entry_cold hr
    exact ⟨agrees_of_empty rfl rfl rfl fun h => absurd rfl h, fun _ => trivial, fun g hg => by cases hg⟩
  · refine ⟨?_, fun x hx => ?_⟩
    · rw [group_cold]; exact iff_of_true rfl rfl
    · rw [group_cold] at hx; cases hx

end

/-! ### Steps -/

/-- What a step does to the device. -/
theorem device_step {s t : State} (h : step s = .next t) {d' : Device} (hd : t.dev = some d') :
    (∃ b, d' = .cold b s.pins) ∨ ∃ d, s.dev = some d ∧ Keeps d d' ∧ (d.Consistent → d'.Consistent) := by
  cases effect_step h with
  | lost h => rw [h] at hd; cases hd
  | cold b _ h => rw [h] at hd; cases hd; exact .inl ⟨b, rfl⟩
  | idle hs => rw [hs] at hd; exact .inr ⟨d', hd, .refl d', id⟩
  | live d f hl he ht =>
    rw [ht] at hd
    cases hd
    have h := orderly_liveEvent he d
    exact .inr ⟨d, hl.dev, h.toKeeps, h.consistent⟩
  | begins d hl ht =>
    rw [ht] at hd
    cases hd
    have h := steady_warmBegin d
    exact .inr ⟨d, hl.dev, h.toKeeps, h.consistent⟩
  | uncaused d hs _ ht =>
    rw [ht] at hd
    cases hd
    have h : Steady d { d with cmdReset := false } := steady_of_board rfl rfl rfl rfl rfl
    exact .inr ⟨d, hs, h.toKeeps, h.consistent⟩
  | releases d hs _ ht =>
    have h : Steady d { d with cmdReset := false } := steady_of_board rfl rfl rfl rfl rfl
    refine .inr ⟨d, hs, ?_⟩
    rw [← Option.some.inj (ht.symm.trans hd)]
    exact ⟨h.toKeeps.trans (keeps_warmRelease { d with cmdReset := false } t.pins),
      fun hc => consistent_warmRelease (h.consistent hc) t.pins⟩

/-- A condition that holds of the cold device, and that goes on with every change of a step, is kept by every step. -/
theorem holds_step {P : Device → Prop} (hcold : ∀ b p, P (.cold b p))
    (hkeep : ∀ d d', Keeps d d' → (d.Consistent → d'.Consistent) → P d → P d') {s t : State} (h : step s = .next t)
    (hs : s.Holds P) : t.Holds P := by
  intro d' hd
  rcases device_step h hd with ⟨b, rfl⟩ | ⟨d, hd₀, hk, hc⟩
  · exact hcold b s.pins
  · exact hkeep d d' hk hc (hs d hd₀)

/-- Settles O56: the operations that a step is made of each keep the names sound. -/
theorem stepsKeepNamesSound : Obligations.StepsKeepNamesSound := fun _ _ hs h =>
  holds_step namesSound_cold (fun _ _ hk _ => hk.names) h hs

/-- Settles O59: the operations that a step is made of each keep the control lease. -/
theorem stepsKeepTheControlLease : Obligations.StepsKeepTheControlLease := fun _ _ hs h =>
  holds_step controlLeaseKept_cold (fun _ _ hk _ => hk.control) h hs

end Sys2Proof.Machine
end

section
/-!
PROOFS. Queues served (R75, R103): the grant decision leaves no grantable head, and every operation on an entry ends with one
or leaves the entry as it was.
-/
namespace Sys2Proof.Machine

/-- The record of entry `e`, if there is one, has no grantable head while it is decidable, and no queue while RETIRING. -/
def Record.Served (r : Record) : Prop := (r.decidable = true → r.HeadBlocked) ∧ (r.lifecycle ≠ .live → r.queue = [])

def Device.ServedAt (d : Device) (e : EntryIx) : Prop := ∀ r, d.entry e = some r → r.Served

/-- A RETIRING record of entry `e` has no queue (R103). -/
def Device.RetiringEmpty (d : Device) (e : EntryIx) : Prop := ∀ r, d.entry e = some r → r.lifecycle ≠ .live → r.queue = []

theorem queuesServed_iff {d : Device} : d.QueuesServed ↔ ∀ e, d.ServedAt e :=
  ⟨fun h e r hr => ⟨h.blocked e r hr, h.retiring e r hr⟩, fun h => ⟨fun e r hr => (h e r hr).1, fun e r hr => (h e r hr).2⟩⟩

section
variable {d d' : Device} {e : EntryIx} {r r' : Record} {a : Agent}

theorem Device.ServedAt.retiringEmpty (h : d.ServedAt e) : d.RetiringEmpty e := fun r hr => (h r hr).2

/-- An operation that leaves the other slots. -/
theorem served_of_else (hx : ∀ x, x ≠ e → d'.entry x = d.entry x) (hs : d.QueuesServed) (he : d'.ServedAt e) : d'.QueuesServed := by
  rw [queuesServed_iff] at hs ⊢
  intro x
  by_cases h : x = e
  · rw [h]; exact he
  · intro r hr
    rw [hx x h] at hr
    exact hs x r hr

theorem Reaches.served (h : Reaches e d d') (hs : d.QueuesServed) (he : d'.ServedAt e) : d'.QueuesServed :=
  served_of_else (fun _ => h.entry) hs he

theorem servedAt_of_entry (he : d'.entry e = d.entry e) (hs : d.ServedAt e) : d'.ServedAt e := fun r hr => hs r (he ▸ hr)

theorem servedAt_of_slots (h : d'.slots = d.slots) (hs : d.ServedAt e) : d'.ServedAt e := servedAt_of_entry (entry_of_slots h e) hs

theorem served_of_slots (h : d'.slots = d.slots) (hs : d.QueuesServed) : d'.QueuesServed := by
  rw [queuesServed_iff] at hs ⊢
  exact fun e => servedAt_of_slots h (hs e)

/-- What the service of a queue looks at in a holder and in a cell. -/
def Holder.claim (h : Holder) : Agent × GrantMode := (h.agent, h.mode)
def WaitCell.claimed (c : WaitCell) : Agent × WaitMode := (c.agent, c.mode)

theorem headBlocked_of_alike (hh : r'.holders.map Holder.claim = r.holders.map Holder.claim)
    (hq : r'.queue.map WaitCell.claimed = r.queue.map WaitCell.claimed) (h : r.HeadBlocked) : r'.HeadBlocked := by
  intro c q hcq
  rw [hcq, List.map_cons] at hq
  obtain ⟨c₀, q₀, hq₀, hc₀, -⟩ := List.map_eq_cons_iff.mp hq.symm
  have hb := h c₀ q₀ hq₀
  obtain ⟨hag, hmo⟩ := Prod.mk.inj hc₀
  have hagents : r'.holders.map (·.agent) = r.holders.map (·.agent) := by
    have := congrArg (List.map Prod.fst) hh
    simpa [Holder.claim, Function.comp_def] using this
  have hmodes : ∀ m, (∃ x ∈ r.holders, x.mode = m) → ∃ x ∈ r'.holders, x.mode = m := by
    rintro m ⟨x, hx, rfl⟩
    have : x.claim ∈ r'.holders.map Holder.claim := hh ▸ List.mem_map_of_mem hx
    obtain ⟨y, hy, hyx⟩ := List.mem_map.mp this
    exact ⟨y, hy, (Prod.mk.inj hyx).2⟩
  rw [← hmo]
  cases hm : c₀.mode with
  | upgrade => rw [hm] at hb; rw [hagents, ← hag]; exact hb
  | exclusive =>
    rw [hm] at hb
    intro h0
    exact hb (List.map_eq_nil_iff.mp (by rw [← hh, h0]; rfl))
  | shared => rw [hm] at hb; exact hmodes _ hb

/-- A record changed in what its service does not look at. -/
theorem served_of_alike (hl : r'.lifecycle = r.lifecycle) (ho : r'.occupancy = r.occupancy)
    (hh : r'.holders.map Holder.claim = r.holders.map Holder.claim)
    (hq : r'.queue.map WaitCell.claimed = r.queue.map WaitCell.claimed) (h : r.Served) : r'.Served := by
  have hd : r'.decidable = r.decidable := by
    simp only [Record.decidable, Record.isRetiring, Record.isSwitching, hl, ho]
  refine ⟨fun hd' => headBlocked_of_alike hh hq (h.1 (hd ▸ hd')), fun hl' => ?_⟩
  rw [h.2 (hl ▸ hl')] at hq
  exact List.map_eq_nil_iff.mp hq

theorem headBlocked_nil (h : r.queue = []) : r.HeadBlocked := fun c q hq => by rw [h] at hq; cases hq

theorem served_nil (h : r.queue = []) : r.Served := ⟨fun _ => headBlocked_nil h, fun _ => h⟩

/-- An entry that is SWITCHING or FAULTED, and not RETIRING with a queue. -/
theorem served_of_undecidable (hd : r.decidable = false) (h : r.lifecycle ≠ .live → r.queue = []) : r.Served :=
  ⟨fun hd' => absurd (hd.symm.trans hd') (by decide), h⟩

/-- A LIVE entry whose only holder is EXCLUSIVE and waits for nothing (R71, R72, R73). -/
theorem headBlocked_of_exclusive (ha : r.Agrees) {h : Holder} (hh : r.holders = [h]) (hm : h.mode = .exclusive)
    (hw : r.waitedBy h.agent = false) : r.HeadBlocked := by
  intro c q hq
  have hc : c ∈ r.queue := by rw [hq]; exact List.mem_cons_self
  cases hcm : c.mode with
  | upgrade =>
    have hheld := (ha.claims c hc).mpr hcm
    rw [heldBy_iff, hh, List.map_singleton, List.mem_singleton] at hheld
    exact absurd hheld (waitedBy_eq_false.mp hw c hc)
  | exclusive => dsimp only; rw [hh]; exact List.cons_ne_nil _ _
  | shared => exact ⟨h, by rw [hh]; exact List.mem_singleton_self h, hm⟩

theorem servedAt_map {f : Record → Record} (hl : ∀ r, (f r).lifecycle = r.lifecycle) (ho : ∀ r, (f r).occupancy = r.occupancy)
    (hh : ∀ r, (f r).holders.map Holder.claim = r.holders.map Holder.claim)
    (hq : ∀ r, (f r).queue.map WaitCell.claimed = r.queue.map WaitCell.claimed) (hs : d.ServedAt e) :
    (d.modifyEntry e f).ServedAt e := by
  intro s hs'
  rw [Device.entry_modifyEntry, if_pos rfl] at hs'
  obtain ⟨r, hr, rfl⟩ := Option.map_eq_some_iff.mp hs'
  exact served_of_alike (hl r) (ho r) (hh r) (hq r) (hs r hr)

theorem slots_tellAsk (d : Device) (e : EntryIx) (a : Agent) (o : AskOutcome) : (d.tellAsk e a o).slots = d.slots := by
  cases o
  · rfl
  · exact post_slots ..
  · rfl

theorem slots_tellAsks {α : Type} (l : List α) (f : α → Agent) (o : α → AskOutcome) (d : Device) (e : EntryIx) :
    (l.foldl (fun d x => d.tellAsk e (f x) (o x)) d).slots = d.slots := by
  induction l generalizing d with
  | nil => rfl
  | cons x l ih => rw [List.foldl_cons, ih, slots_tellAsk]

/-- What an evaluation does to the record (R86 to R88). -/
theorem entry_evaluate (d : Device) (e : EntryIx) : ∃ f : Record → Record, (d.evaluate e).slots = (d.modifyEntry e f).slots ∧
    ∀ r, ∃ k : Holder → Holder, f r = { r with holders := r.holders.map k } ∧ ∀ h, (k h).claim = h.claim := by
  unfold Device.evaluate
  cases hr : d.entry e with
  | none => exact ⟨id, by rw [modifyEntry_free hr], fun r => ⟨id, by rw [List.map_id]; rfl, fun _ => rfl⟩⟩
  | some r =>
    refine ⟨_, slots_tellAsks r.holders (·.agent) _ _ e, fun r => ⟨_, rfl, fun h => ?_⟩⟩
    simp [Holder.claim]

theorem servedAt_evaluate (hs : d.ServedAt e) : (d.evaluate e).ServedAt e := by
  obtain ⟨f, hf, hk⟩ := entry_evaluate d e
  refine servedAt_of_slots hf (servedAt_map (fun r => ?_) (fun r => ?_) (fun r => ?_) (fun r => ?_) hs) <;>
    obtain ⟨k, hk, hc⟩ := hk r <;> rw [hk]
  rw [List.map_map]
  exact List.map_congr_left fun h _ => hc h

theorem servedAt_post (a : Agent) (k : NoticeKind) (hs : d.ServedAt e) : (d.post e a k).ServedAt e :=
  servedAt_of_slots (post_slots ..) hs

/-! ### The grant decision (R75) -/

/-- A LIVE entry just granted to one EXCLUSIVE holder. -/
theorem served_of_exclusive (ha : r.Agrees) (hl : r.lifecycle = .live) {h : Holder} (hh : r.holders = [h])
    (hm : h.mode = .exclusive) (hw : r.waitedBy h.agent = false) : r.Served :=
  ⟨fun _ => headBlocked_of_exclusive ha hh hm hw, fun hn => absurd hl hn⟩

theorem entry_grantQueued (hr : d.entry e = some r) (c : WaitCell) :
    (d.grantQueued e c).entry e = some (r.grant c d.ticket) := by
  rw [Device.grantQueued, entry_post]; exact (replaces_grantCell hr c).entry_same

/-- The entry after an EXCLUSIVE grant from its queue. -/
theorem served_grant {c : WaitCell} {t : Ticket} (ha : (r.grant c t).Agrees) (hl : r.lifecycle = .live) (hh : r.holders = [])
    (hm : c.mode = .exclusive) : (r.grant c t).Served :=
  served_of_exclusive (h := c.granted r t) ha hl (congrArg (· ++ [c.granted r t]) hh) (by simp [WaitCell.granted, hm])
    (waitedBy_withoutCell r c.agent)

/-- An entry with a switch just started. -/
theorem servedAt_startSwitch {g : GroupIx} {t : SwitchTarget} (hr : d.entry e = some r) (hl : r.lifecycle = .live)
    (hb : (d.group g).binding ≠ none) : (d.startSwitch e g t).ServedAt e := by
  obtain ⟨b, hb⟩ := Option.ne_none_iff_exists'.mp hb
  rw [startSwitch_eq_starting hb hr]
  intro s hs'
  have : ((d.putRecord e (r.startingSwitch t)).setGroup g ((d.group g).starting b t)).entry e = some (r.startingSwitch t) :=
    (entry_putRecord ..).trans (if_pos rfl)
  rw [this] at hs'
  cases hs'
  refine served_of_undecidable ?_ fun hn => absurd hl hn
  simp [Record.decidable, Record.startingSwitch, Record.isSwitching]

theorem servedAt_of_record (hr : d.entry e = some r) (h : r.Served) : d.ServedAt e := fun s hs => by
  rw [hr] at hs; cases hs; exact h

/-- The queue of an entry after the SHARED cells at its front have been granted in turn, and who holds it then. -/
theorem entry_shares (l rest : List WaitCell) {d : Device} {r : Record} (hr : d.entry e = some r) (hq : r.queue = l ++ rest)
    (hn : (r.queue.map (·.agent)).Nodup) :
    ∃ r', (l.foldl (fun d c => d.grantQueued e c) d).entry e = some r' ∧ r'.queue = rest ∧ r'.lifecycle = r.lifecycle ∧
      (∀ a ∈ r.holders.map (·.agent), a ∈ r'.holders.map (·.agent)) ∧ ∀ c ∈ l, c.agent ∈ r'.holders.map (·.agent) := by
  induction l generalizing d r with
  | nil => exact ⟨r, hr, hq, rfl, fun _ h => h, fun _ h => absurd h List.not_mem_nil⟩
  | cons c l ih =>
    rw [hq, List.cons_append, List.map_cons, List.nodup_cons] at hn
    have hq' : (r.grant c d.ticket).queue = l ++ rest := by
      change r.queue.filter (fun x => x.agent ≠ c.agent) = l ++ rest
      rw [hq, List.cons_append, List.filter_cons_of_neg (by simp), List.filter_eq_self]
      intro x hx
      simp only [decide_eq_true_eq]
      intro hxa
      exact hn.1 (List.mem_map.mpr ⟨x, hx, hxa⟩)
    obtain ⟨r', hr', hq'', hl, hold, hnew⟩ := ih (entry_grantQueued hr c) hq' (by rw [hq']; exact hn.2)
    have hmem : ∀ a, a ∈ r.holders.map (·.agent) ∨ a = c.agent → a ∈ r'.holders.map (·.agent) := fun a ha =>
      hold a (by simpa [Record.grant, Record.withHolder, Record.withoutCell, WaitCell.granted] using ha)
    refine ⟨r', hr', hq'', hl, fun a ha => hmem a (.inl ha), fun x hx => ?_⟩
    rcases List.mem_cons.mp hx with rfl | hx
    · exact hmem _ (.inr rfl)
    · exact hnew x hx

/-- The first cell behind the SHARED batch is none itself. -/
theorem mode_of_dropWhile {q q' : List WaitCell} {c : WaitCell} (h : (q.dropWhile fun c => c.mode = .shared) = c :: q') :
    c.mode ≠ .shared := by
  have := List.head?_dropWhile_not (fun c : WaitCell => decide (c.mode = .shared)) q
  rw [h] at this
  simpa using this

theorem servedAt_decideShared (hc : d.Consistent) (hr : d.entry e = some r) (hd : r.decidable = true) {c : WaitCell}
    {q : List WaitCell} (hq : r.queue = c :: q) (hm : c.mode = .shared) : (d.decideShared e r).ServedAt e := by
  have hl := live_of_decidable hd
  unfold Device.decideShared
  split
  · next hx =>
    obtain ⟨h, hh, hhm⟩ := List.any_eq_true.mp hx
    refine servedAt_of_record hr ⟨fun _ c' q' hq' => ?_, fun hn => absurd hl hn⟩
    rw [hq] at hq'
    cases hq'
    rw [hm]
    exact ⟨h, hh, by simpa using hhm⟩
  · have hsplit : r.queue = (r.queue.takeWhile fun c => c.mode = .shared) ++ r.queue.dropWhile fun c => c.mode = .shared :=
      List.takeWhile_append_dropWhile.symm
    have hn := (hc.at hr).agrees.queueOnce
    obtain ⟨r', hr', hq', hl', -, hnew⟩ := entry_shares _ _ hr hsplit hn
    have hfirst : c ∈ r.queue.takeWhile fun c => c.mode = .shared := by
      rw [hq, List.takeWhile_cons_of_pos (by simp [hm])]; exact List.mem_cons_self
    have hheld := hnew c hfirst
    refine servedAt_of_record hr' ⟨fun _ x q'' hxq => ?_, fun hn => absurd (hl'.trans hl) hn⟩
    rw [hq'] at hxq
    have hxm := mode_of_dropWhile hxq
    cases hx : x.mode with
    | shared => exact absurd hx hxm
    | exclusive => intro h0; rw [h0] at hheld; cases hheld
    | upgrade =>
      intro h1
      rw [h1, List.mem_singleton] at hheld
      rw [hsplit, List.map_append] at hn
      refine List.disjoint_of_nodup_append hn (List.mem_map_of_mem hfirst) (hheld ▸ List.mem_map_of_mem ?_)
      rw [hxq]
      exact List.mem_cons_self

theorem servedAt_decideIdle (hc : d.Consistent) (hr : d.entry e = some r) (hd : r.decidable = true) (hq : r.queue = []) :
    (d.decideIdle e r).ServedAt e := by
  have hsame : d.ServedAt e := servedAt_of_record hr (served_nil hq)
  have hl := live_of_decidable hd
  unfold Device.decideIdle
  split
  · exact hsame
  · split
    · next g hg =>
      obtain ⟨b, hb, -⟩ := hc.binding hr hg
      split
      · exact servedAt_startSwitch hr hl (by rw [hb]; simp)
      · exact hsame
    · split
      · next hz =>
        obtain ⟨hz, -⟩ := Bool.and_eq_true_iff.mp hz
        have he : e = 0 := of_decide_eq_true hz
        subst he
        refine servedAt_post _ _ (servedAt_of_record (replaces_newGrant hr ..).entry_same (served_nil ?_))
        exact hq
      · exact hsame

theorem servedAt_decideUpgrade (hc : d.Consistent) (hr : d.entry e = some r) (hd : r.decidable = true) {c : WaitCell}
    {q : List WaitCell} (hq : r.queue = c :: q) (hm : c.mode = .upgrade) : (d.decideUpgrade e r c).ServedAt e := by
  have hl := live_of_decidable hd
  unfold Device.decideUpgrade
  split
  · next ha =>
    have hag := (hc.at hr).agrees.upgrade ha d.ticket c.priority (r.grantedTerm c.term)
    refine servedAt_post _ _ (servedAt_of_record (replaces_upgrade hr c.agent c.priority c.term).entry_same ?_)
    obtain ⟨x, hx, -⟩ := List.map_eq_singleton_iff.mp ha
    have hone : ∃ y, ((r.withoutCell c.agent).converted c.agent d.ticket c.priority (r.grantedTerm c.term)).holders = [y] :=
      ⟨_, congrArg (List.map _) hx⟩
    obtain ⟨y, hy⟩ := hone
    have hya : y.agent = c.agent := by
      have := holders_converted_agent (r.withoutCell c.agent) c.agent d.ticket c.priority (r.grantedTerm c.term)
      rw [hy, show (r.withoutCell c.agent).holders = r.holders from rfl, ha] at this
      simpa using this
    refine served_of_exclusive hag hl hy (mode_converted (r := r.withoutCell c.agent) ha y (by rw [hy]; exact List.mem_singleton_self y)) ?_
    rw [hya]
    exact waitedBy_withoutCell r c.agent
  · next ha =>
    refine servedAt_of_record hr ⟨fun _ c' q' hq' => ?_, fun hn => absurd hl hn⟩
    rw [hq] at hq'
    cases hq'
    rw [hm]
    exact ha

theorem servedAt_decideExclusive (hc : d.Consistent) (hr : d.entry e = some r) (hd : r.decidable = true) {c : WaitCell}
    {q : List WaitCell} (hq : r.queue = c :: q) (hm : c.mode = .exclusive) : (d.decideExclusive e r c).ServedAt e := by
  have hl := live_of_decidable hd
  have hcq : c ∈ r.queue := by rw [hq]; exact List.mem_cons_self
  have hsteady := steady_decideExclusive hr hd hcq hm
  unfold Device.decideExclusive at hsteady ⊢
  split
  · next hh =>
    refine servedAt_of_record hr ⟨fun _ c' q' hq' => ?_, fun hn => absurd hl hn⟩
    rw [hq] at hq'
    cases hq'
    rw [hm]
    exact hh
  · next hh =>
    rw [if_neg hh] at hsteady
    have hh : r.holders = [] := not_not.mp hh
    have granted : (d.grantQueued e c).Consistent → (d.grantQueued e c).ServedAt e := fun hc' =>
      have hr' := entry_grantQueued hr c
      servedAt_of_record hr' (served_grant (hc'.at hr').agrees hl hh hm)
    split
    · next hg => rw [hg] at hsteady; exact granted (hsteady.consistent hc)
    · next g hg =>
      rw [hg] at hsteady
      obtain ⟨b, hb, -⟩ := hc.binding hr hg
      dsimp only at hsteady
      split
      · next hcon => rw [if_pos hcon] at hsteady; exact granted (hsteady.consistent hc)
      · exact servedAt_startSwitch hr hl (by rw [hb]; simp)

/-- A run of the grant decision leaves no grantable head (R75). -/
theorem servedAt_grantDecision (hc : d.Consistent) (hret : d.RetiringEmpty e) : (d.grantDecision e).ServedAt e := by
  unfold Device.grantDecision
  split
  · next hr => exact fun s hs => by rw [hr] at hs; cases hs
  · next r hr =>
    split
    · next hd =>
      split
      · next hq => exact servedAt_decideIdle hc hr hd hq
      · next c q hq =>
        split
        · next hm => exact servedAt_decideUpgrade hc hr hd hq hm
        · next hm => exact servedAt_decideExclusive hc hr hd hq hm
        · next hm => exact servedAt_decideShared hc hr hd hq hm
    · next hd => exact servedAt_of_record hr (served_of_undecidable (by simpa using hd) (hret r hr))

/-! ### Drain completion, hand-on, departure -/

theorem entry_drain (d : Device) (e : EntryIx) (r : Record) (q : Agent) : (d.drain e r q).entry e = none := by
  unfold Device.entry; rw [slot_drain]

theorem checkDrain_cases (d : Device) (e : EntryIx) : (d.checkDrain e).entry e = none ∨ d.checkDrain e = d := by
  unfold Device.checkDrain
  split
  · exact .inr rfl
  · split
    · exact .inr rfl
    · split
      · exact .inl (entry_drain ..)
      · exact .inr rfl

theorem servedAt_none (h : d.entry e = none) : d.ServedAt e := fun s hs => by rw [h] at hs; cases hs

theorem servedAt_checkDrain (hs : d.ServedAt e) : (d.checkDrain e).ServedAt e := by
  rcases checkDrain_cases d e with h | h
  · exact servedAt_none h
  · rw [h]; exact hs

theorem servedAt_handOn (hc : d.Consistent) (hret : d.RetiringEmpty e) : (d.handOn e).ServedAt e :=
  servedAt_evaluate (servedAt_checkDrain (servedAt_grantDecision hc hret))

/-- A RETIRING record keeps an empty queue while it loses cells. -/
theorem retiringEmpty_modifyEntry {f : Record → Record} (hl : ∀ r, (f r).lifecycle = r.lifecycle)
    (hq : ∀ r : Record, r.queue = [] → (f r).queue = []) (h : d.RetiringEmpty e) : (d.modifyEntry e f).RetiringEmpty e := by
  intro s hs hn
  rw [Device.entry_modifyEntry, if_pos rfl] at hs
  obtain ⟨r, hr, rfl⟩ := Option.map_eq_some_iff.mp hs
  exact hq r (h r hr (hl r ▸ hn))

theorem retiringEmpty_of_slots (hs : d'.slots = d.slots) (h : d.RetiringEmpty e) : d'.RetiringEmpty e := fun r hr =>
  h r (by rw [← entry_of_slots hs, hr])

theorem retiringEmpty_post {a : Agent} {k : NoticeKind} (h : d.RetiringEmpty e) : (d.post e a k).RetiringEmpty e :=
  retiringEmpty_of_slots (post_slots ..) h

theorem retiringEmpty_removeCell (a : Agent) (h : d.RetiringEmpty e) : (d.removeCell e a).RetiringEmpty e :=
  retiringEmpty_modifyEntry (fun _ => rfl) (fun _ hq => by simp [hq]) h

theorem retiringEmpty_endGrant (a : Agent) (h : d.RetiringEmpty e) : (d.endGrant e a).RetiringEmpty e :=
  retiringEmpty_modifyEntry (fun _ => rfl) (fun _ hq => by simp [hq]) h

theorem slots_abortFlight (d : Device) (e : EntryIx) (a : Agent) (p : Priority) : (d.abortFlight e a p).slots = d.slots := by
  unfold Device.abortFlight; split <;> rfl

theorem servedAt_departWait (hc : d.Consistent) (a : Agent) (hs : d.ServedAt e) : (d.departWait e a).ServedAt e := by
  rcases departWait_cases d e a with ⟨h, -⟩ | ⟨r, c, -, -, h⟩ <;> rw [h]
  · exact hs
  · exact servedAt_grantDecision (((steady_abortFlight ..).trans (steady_removeCell ..)).consistent hc)
      (retiringEmpty_removeCell a (retiringEmpty_of_slots (slots_abortFlight ..) hs.retiringEmpty))

theorem servedAt_departHold (hc : d.Consistent) (a : Agent) (hs : d.ServedAt e) : (d.departHold e a).ServedAt e := by
  rcases departHold_cases d e a with ⟨h, -⟩ | ⟨r, hr, hh, h⟩ <;> rw [h]
  · exact hs
  · exact servedAt_checkDrain (servedAt_grantDecision ((steady_endGrant_held hr hh).consistent hc)
      (retiringEmpty_endGrant a hs.retiringEmpty))

/-- A fold of steady operations, each of which leaves the entry served. -/
theorem servedAt_foldl {α : Type} {f : Device → α → Device} (hf : ∀ d x, Calm d (f d x))
    (hs : ∀ d x, d.Consistent → d.ServedAt e → (f d x).ServedAt e) (l : List α) {d : Device} (hc : d.Consistent)
    (h : d.ServedAt e) : (l.foldl f d).ServedAt e := by
  induction l generalizing d with
  | nil => exact h
  | cons x l ih => exact ih ((hf d x).consistent hc) (hs d x hc h)

theorem served_departEntry (as : List Agent) (hc : d.Consistent) (hs : d.QueuesServed) : (d.departEntry as e).QueuesServed := by
  refine (reaches_departEntry as d e).served hs ?_
  unfold Device.departEntry
  split
  · refine servedAt_evaluate (servedAt_foldl (fun d a => (steady_departHold d e a).toCalm)
      (fun d a hc h => servedAt_departHold hc a h) as ?_ ?_)
    · exact (Steady.foldl _ (fun d a => steady_departWait d e a) as d).consistent hc
    · exact servedAt_foldl (fun d a => (steady_departWait d e a).toCalm) (fun d a hc h => servedAt_departWait hc a h) as hc
        (queuesServed_iff.mp hs e)
  · exact queuesServed_iff.mp hs e

/-- A fold of steady operations, each of which keeps the queues served. -/
theorem served_foldl {α : Type} {f : Device → α → Device} (hf : ∀ d x, Calm d (f d x))
    (hs : ∀ d x, d.Consistent → d.QueuesServed → (f d x).QueuesServed) (l : List α) {d : Device} (hc : d.Consistent)
    (h : d.QueuesServed) : (l.foldl f d).QueuesServed := by
  induction l generalizing d with
  | nil => exact h
  | cons x l ih => exact ih ((hf d x).consistent hc) (hs d x hc h)

theorem served_departEntries (as : List Agent) (l : List EntryIx) (hc : d.Consistent) (hs : d.QueuesServed) :
    (d.departEntries as l).QueuesServed :=
  served_foldl (fun d e => (steady_departEntry as d e).toCalm) (fun _ _ hc h => served_departEntry as hc h) l hc hs

theorem slots_clearNotices {as : List Agent} : (d.clearNotices as).slots = d.slots := by rw [clearNotices_eq]

theorem served_departed (as : List Agent) (hc : d.Consistent) (hs : d.QueuesServed) : (d.departed as).QueuesServed :=
  served_of_slots slots_clearNotices (served_departEntries as allEntries (consistent_setRosters hc)
    (served_of_slots slots_setRosters hs))

theorem slots_depart (d : Device) (as : List Agent) (x : Roster) : (d.depart as x).slots = (d.departed as).slots := by
  rw [depart_eq_departed, slots_closeWindow, slots_setRosters]

theorem served_depart (as : List Agent) (x : Roster) (hc : d.Consistent) (hs : d.QueuesServed) : (d.depart as x).QueuesServed :=
  served_of_slots (slots_depart d as x) (served_departed as hc hs)

/-- An entry handed on, the others as they were. -/
theorem served_handOn (hc : d.Consistent) (hs : d.QueuesServed) (e : EntryIx) : (d.handOn e).QueuesServed :=
  (onlyEntry_handOn d e).reaches.served hs (servedAt_handOn hc (queuesServed_iff.mp hs e).retiringEmpty)

/-- An entry changed, with its RETIRING record still without a queue, and handed on. -/
theorem served_then_handOn (hx : ∀ x, x ≠ e → d'.entry x = d.entry x) (hs : d.QueuesServed) (hc : d'.Consistent)
    (hret : d'.RetiringEmpty e) : (d'.handOn e).QueuesServed :=
  served_of_else (fun x h => ((onlyEntry_handOn d' e).reaches.entry h).trans (hx x h)) hs (servedAt_handOn hc hret)

theorem served_evaluate (hs : d.QueuesServed) (e : EntryIx) : (d.evaluate e).QueuesServed :=
  (onlyEntry_evaluate d e).reaches.served hs (servedAt_evaluate (queuesServed_iff.mp hs e))

theorem served_checkDrain (hs : d.QueuesServed) (e : EntryIx) : (d.checkDrain e).QueuesServed :=
  (onlyEntry_checkDrain d e).reaches.served hs (servedAt_checkDrain (queuesServed_iff.mp hs e))

end

end Sys2Proof.Machine
end

section
/-!
PROOFS. Queues served (R75, R103) after each command and each event.
-/
namespace Sys2Proof.Machine

section
variable {d d' : Device} {e : EntryIx} {r r' : Record} {a : Agent} {p : Params} {g : GroupIx}

theorem entry_modifyEntry_ne {x : EntryIx} (hx : x ≠ e) (f : Record → Record) : (d.modifyEntry e f).entry x = d.entry x := by
  rw [Device.entry_modifyEntry, if_neg (Ne.symm hx)]

/-! ### An entry without a queue -/

/-- Nobody waits on entry `e`. -/
def Device.QueueEmptyAt (d : Device) (e : EntryIx) : Prop := ∀ r, d.entry e = some r → r.queue = []

theorem Device.QueueEmptyAt.servedAt (h : d.QueueEmptyAt e) : d.ServedAt e := fun r hr => served_nil (h r hr)

theorem queueEmptyAt_of_entry (he : d'.entry e = d.entry e) (h : d.QueueEmptyAt e) : d'.QueueEmptyAt e := fun r hr => h r (he ▸ hr)

theorem queueEmptyAt_modifyEntry {f : Record → Record} (hq : ∀ r : Record, r.queue = [] → (f r).queue = [])
    (h : d.QueueEmptyAt e) : (d.modifyEntry e f).QueueEmptyAt e := by
  intro s hs
  rw [Device.entry_modifyEntry, if_pos rfl] at hs
  obtain ⟨r, hr, rfl⟩ := Option.map_eq_some_iff.mp hs
  exact hq r (h r hr)

theorem queueEmptyAt_evaluate (h : d.QueueEmptyAt e) : (d.evaluate e).QueueEmptyAt e := by
  obtain ⟨f, hf, hk⟩ := entry_evaluate d e
  refine queueEmptyAt_of_entry (entry_of_slots hf e) (queueEmptyAt_modifyEntry (fun r hq => ?_) h)
  obtain ⟨k, hk, -⟩ := hk r
  rw [hk]
  exact hq

theorem queueEmptyAt_checkDrain (h : d.QueueEmptyAt e) : (d.checkDrain e).QueueEmptyAt e := by
  rcases checkDrain_cases d e with hn | hn
  · exact fun s hs => by rw [hn] at hs; cases hs
  · rw [hn]; exact h

theorem queueEmptyAt_returnHome (h : d.QueueEmptyAt e) : (d.returnHome e g).QueueEmptyAt e := by
  unfold Device.returnHome
  split
  · unfold Device.startSwitch
    split
    · exact h
    · dsimp only
      exact queueEmptyAt_of_entry (d := d.modifyEntry e _) rfl (queueEmptyAt_modifyEntry (fun _ hq => hq) h)
  · exact h

theorem entry_returnHome_ne {x : EntryIx} (hx : x ≠ e) : (d.returnHome e g).entry x = d.entry x := by
  unfold Device.returnHome
  split
  · unfold Device.startSwitch
    split
    · rfl
    · exact entry_modifyEntry_ne hx _
  · rfl

/-! ### Leases -/

theorem served_takeRelease (hc : d.Consistent) (hs : d.QueuesServed) : (takeRelease a p d).1.QueuesServed := by
  unfold takeRelease
  split
  · exact hs
  · next e r hl =>
    split
    · next hh =>
      exact served_then_handOn (fun _ => (onlyEntry_endGrant d e a).reaches.entry) hs
        ((steady_endGrant_held (lookup_entry hl) hh).consistent hc)
        (retiringEmpty_endGrant a (queuesServed_iff.mp hs e).retiringEmpty)
    · exact hs

theorem served_takeCancel (hc : d.Consistent) (hs : d.QueuesServed) : (takeCancel a p d).1.QueuesServed := by
  unfold takeCancel
  split
  · exact hs
  · next e r hl =>
    split
    · exact served_then_handOn (fun _ => (onlyEntry_removeCell d e a).reaches.entry) hs ((steady_removeCell d e a).consistent hc)
        (retiringEmpty_removeCell a (queuesServed_iff.mp hs e).retiringEmpty)
    · exact hs

theorem served_modifyHolder {f : Holder → Holder} (hf : ∀ h, (f h).claim = h.claim) (hs : d.QueuesServed) :
    (d.modifyHolder e a f).QueuesServed := by
  refine served_of_else (fun _ hx => entry_modifyEntry_ne hx _) hs
    (servedAt_map (fun _ => rfl) (fun _ => rfl) (fun r => ?_) (fun _ => rfl) (queuesServed_iff.mp hs e))
  rw [List.map_map]
  refine List.map_congr_left fun h _ => ?_
  simp only [Function.comp_apply]
  split
  · exact hf h
  · rfl

theorem served_takeRenew (hs : d.QueuesServed) : (takeRenew a p d).1.QueuesServed := by
  unfold takeRenew
  split
  · exact hs
  · split
    · exact hs
    · split
      · exact served_modifyHolder (fun _ => rfl) hs
      · exact hs

theorem served_takeDowngrade (hc : d.Consistent) (hs : d.QueuesServed) : (takeDowngrade a p d).1.QueuesServed := by
  unfold takeDowngrade
  split
  · exact hs
  · next e r hl =>
    split
    · exact hs
    · next h hh =>
      split
      · exact hs
      · next hsh =>
        split
        · exact hs
        · next hm =>
          have hx : h.mode = .exclusive := by
            cases hm' : h.mode with
            | exclusive => rfl
            | shared => exact absurd hm' hm
          have hsa : r.sharing = .sharedAllowed := by
            cases hs' : r.sharing with
            | sharedAllowed => rfl
            | exclusiveOnly => exact absurd hs' hsh
          refine served_then_handOn (fun x hx => (entry_modifyEntry_ne hx _).trans (entry_modifyEntry_ne hx _)) hs
            ((steady_downgrade (lookup_entry hl) hh hx hsa).consistent hc) ?_
          exact retiringEmpty_modifyEntry (fun _ => rfl) (fun _ h => h)
            (retiringEmpty_modifyEntry (fun _ => rfl) (fun _ h => h) (queuesServed_iff.mp hs e).retiringEmpty)

/-- A grant on an entry that nobody waits for. -/
theorem served_newGrant (hr : d.entry e = some r) (hq : r.queue = []) {m : GrantMode} {pr : Priority} {t : Term}
    (hs : d.QueuesServed) : (d.newGrant e a m pr t).QueuesServed :=
  (onlyEntry_newGrant d e a m pr t).reaches.served hs
    (servedAt_of_record (replaces_newGrant hr ..).entry_same (served_nil hq))

theorem served_convert (hc : d.Consistent) (hr : d.entry e = some r) (hl : r.lifecycle = .live) (hw : r.waitedBy a = false)
    (ha : r.holders.map (·.agent) = [a]) {pr : Priority} {t : Term} (hs : d.QueuesServed) :
    (d.convertHolder e a pr t).QueuesServed := by
  refine (onlyEntry_convertHolder d e a pr t).reaches.served hs
    (servedAt_of_record (replaces_convertHolder hr a pr t).entry_same ?_)
  obtain ⟨x, hx, -⟩ := List.map_eq_singleton_iff.mp ha
  have hone : ∃ y, (r.converted a d.ticket pr (r.grantedTerm t)).holders = [y] := ⟨_, congrArg (List.map _) hx⟩
  obtain ⟨y, hy⟩ := hone
  have hya : y.agent = a := by
    have := holders_converted_agent r a d.ticket pr (r.grantedTerm t)
    rw [hy, ha] at this
    simpa using this
  refine served_of_exclusive ((hc.at hr).agrees.converted ha _ _ _) hl hy
    (mode_converted ha y (by rw [hy]; exact List.mem_singleton_self y)) ?_
  rw [hya]
  exact hw

theorem entry_enqueue (hr : d.entry e = some r) (c : WaitCell) :
    (d.enqueue e c).entry e = some { r with queue := insertCell c r.queue } := by
  rw [Device.enqueue, Device.entry_modifyEntry, if_pos rfl, hr]; rfl

theorem served_takeInFlight (hc : d.Consistent) (hr : d.entry e = some r) {c : Claim} (hl : r.lifecycle = .live)
    (hg : r.group = some g) (hs : d.QueuesServed) : (takeInFlight d e g c).1.QueuesServed := by
  unfold takeInFlight
  split
  · exact hs
  · obtain ⟨b, hb, -⟩ := hc.binding hr hg
    have hr' := entry_enqueue hr c.targetCell
    have hsw : ((d.enqueue e c.targetCell).startSwitch e g (.agent c.agent)).ServedAt e :=
      servedAt_startSwitch hr' hl (by rw [show (d.enqueue e c.targetCell).group g = d.group g from rfl, hb]; simp)
    have hreach : Reaches e d (((d.enqueue e c.targetCell).startSwitch e g (.agent c.agent)).evaluate e) :=
      (((onlyEntry_enqueue d e _).trans (onlyEntry_startSwitch _ e hr' hg _)).trans (onlyEntry_evaluate ..)).reaches
    exact served_of_slots (d := ((d.enqueue e c.targetCell).startSwitch e g (.agent c.agent)).evaluate e) rfl
      (hreach.served hs (servedAt_evaluate hsw))

theorem served_takeWait (hr : d.entry e = some r) {c : Claim} (had : Record.Admits d r c.agent c.mode) (ho : d.Online c.agent)
    (hc : d.Consistent) (hs : d.QueuesServed) : (takeWait d e c).1.QueuesServed := by
  unfold takeWait
  split
  · exact hs
  · split
    · exact hs
    · next hw =>
      refine served_then_handOn (fun _ => (onlyEntry_enqueue d e c.cell).reaches.entry) hs
        ((steady_enqueue (c := c.cell) hr had (fun h => by cases h) hw ho).consistent hc) fun s hs' hn => ?_
      rw [entry_enqueue hr] at hs'
      cases hs'
      exact absurd had.live hn

theorem served_decideClaim (hr : d.entry e = some r) {c : Claim} (had : Record.Admits d r c.agent c.mode) (ho : d.Online c.agent)
    (hc : d.Consistent) (hs : d.QueuesServed) : (decideClaim d e r c).1.QueuesServed := by
  unfold decideClaim
  rcases claimOutcome_cases d r c with ⟨h, -, -, hq, -⟩ | ⟨g, h, -, -, -, hg⟩ | ⟨h, -, -, hq⟩ | ⟨h, -, ha⟩ | h <;> rw [h]
  · exact served_newGrant hr hq hs
  · exact served_takeInFlight hc hr had.live hg hs
  · exact served_newGrant hr hq hs
  · exact served_evaluate (served_convert hc hr had.live had.waits ha hs) e
  · exact served_takeWait hr had ho hc hs

theorem served_takeRequest (ho : d.Online a) (hc : d.Consistent) (hs : d.QueuesServed) : (takeRequest a p d).1.QueuesServed := by
  unfold takeRequest
  split
  · exact hs
  · next e r hl =>
    split
    · split
      · exact hs
      · next hf => exact served_decideClaim (lookup_entry hl) (admits_of_requestRefusal hf) ho hc hs
    · exact hs

/-! ### Revocation and retirement -/

theorem served_revoke (hr : d.entry e = some r) (hh : r.heldBy a = true) (hc : d.Consistent) (hs : d.QueuesServed) :
    (d.revoke e a).QueuesServed :=
  served_then_handOn (fun _ => ((onlyEntry_endGrant d e a).trans (onlyEntry_post ..)).reaches.entry) hs
    (((steady_endGrant_held hr hh).trans (steady_post ..)).consistent hc)
    (retiringEmpty_post (retiringEmpty_endGrant a (queuesServed_iff.mp hs e).retiringEmpty))

theorem served_takeForceRelease (hc : d.Consistent) (hs : d.QueuesServed) : (takeForceRelease a p d).1.QueuesServed := by
  unfold takeForceRelease
  split
  · exact hs
  · next e r hl =>
    split
    · exact hs
    · split
      · exact hs
      · split
        · exact hs
        · next hh => exact served_revoke (lookup_entry hl) (heldBy_of_holder hh) hc hs

theorem reaches_tellWaiter (d : Device) (e : EntryIx) (c : WaitCell) (code : ResultCode) (k : NoticeKind) :
    Reaches e d (d.tellWaiter e c code k) := by
  unfold Device.tellWaiter
  split
  · exact reaches_finish ..
  · exact (onlyEntry_post ..).reaches

theorem reaches_retireQueue (d : Device) (e : EntryIx) (r : Record) (a : Agent) (m : RetireMode) :
    Reaches e d (d.retireQueue e r a m) := by
  unfold Device.retireQueue
  refine ((onlyEntry_modifyEntry d e _ ?_).reaches.trans (Reaches.foldl _ (fun d c => reaches_tellWaiter d e c _ _) _ _)).trans
    (onlyEntry_modifyEntry _ e _ ?_).reaches
  · exact fun _ => rfl
  · exact fun _ => rfl

theorem onlyEntry_retireHolders (d : Device) (e : EntryIx) (r : Record) (m : RetireMode) : OnlyEntry e d (d.retireHolders e r m) := by
  unfold Device.retireHolders
  have hposts : OnlyEntry e d (r.holders.foldl (fun d h => d.post e h.agent .retiring) d) :=
    OnlyEntry.foldl (fun d (h : Holder) => d.post e h.agent .retiring) (fun d h => onlyEntry_post ..) _ _
  cases m with
  | drain => exact hposts
  | immediate =>
    exact hposts.trans (OnlyEntry.foldl (fun d (h : Holder) => (d.endGrant e h.agent).post e h.agent .revoked)
      (fun d h => (onlyEntry_endGrant ..).trans (onlyEntry_post ..)) _ _)

theorem queueEmptyAt_retireHolders (m : RetireMode) (h : d.QueueEmptyAt e) : (d.retireHolders e r m).QueueEmptyAt e := by
  unfold Device.retireHolders
  have hposts : (r.holders.foldl (fun d h => d.post e h.agent .retiring) d).QueueEmptyAt e :=
    queueEmptyAt_of_entry (entry_posts ..) h
  cases m with
  | drain => exact hposts
  | immediate =>
    have revoke : ∀ (l : List Holder) (d : Device), d.QueueEmptyAt e →
        (l.foldl (fun d h => (d.endGrant e h.agent).post e h.agent .revoked) d).QueueEmptyAt e := by
      intro l
      induction l with
      | nil => exact fun _ h => h
      | cons x l ih =>
        intro d h
        refine ih _ (queueEmptyAt_of_entry (entry_post ..) (queueEmptyAt_modifyEntry (fun r hq => ?_) h))
        simp [hq]
    exact revoke _ _ hposts

theorem served_takeRetire (hs : d.QueuesServed) : (takeRetire a p d).1.QueuesServed := by
  unfold takeRetire
  split
  · exact hs
  · next e r hl =>
    split
    · exact hs
    · next m _ =>
      split
      · exact hs
      · split
        · exact hs
        · split
          · exact hs
          · have hreach := ((reaches_retireQueue d e r a m).trans (onlyEntry_retireHolders _ e r m).reaches).trans
              ((onlyEntry_evaluate _ e).trans (onlyEntry_checkDrain _ e)).reaches
            refine hreach.served hs (Device.QueueEmptyAt.servedAt ?_)
            refine queueEmptyAt_checkDrain (queueEmptyAt_evaluate (queueEmptyAt_retireHolders m fun s hs' => ?_))
            rw [entry_retireQueue (lookup_entry hl)] at hs'
            cases hs'
            rfl

/-! ### Records -/

theorem served_createRecord (hq : r.queue = []) (hs : d.QueuesServed) : (d.createRecord e r).QueuesServed :=
  served_of_else (fun x hx => by rw [entry_createRecord, if_neg (Ne.symm hx)]) hs fun s hs' => by
    rw [entry_createRecord, if_pos rfl] at hs'
    cases hs'
    exact served_nil hq

theorem served_takeOpen (hs : d.QueuesServed) : (takeOpen a p d).1.QueuesServed := by
  unfold takeOpen
  dsimp only
  split
  · exact hs
  · split
    · split <;> exact hs
    · split
      · exact hs
      · split
        · exact hs
        · split
          · exact served_createRecord rfl hs
          · exact hs

theorem served_takeDefine (hs : d.QueuesServed) : (takeDefine a p d).1.QueuesServed := by
  unfold takeDefine
  split
  · exact hs
  · next q _ =>
    split
    · exact hs
    · split
      · exact hs
      · split
        · exact hs
        · next e _ =>
          cases q.steer with
          | none => exact served_createRecord rfl hs
          | some s =>
            refine served_of_else (e := e) (fun x hx => ?_) hs (Device.QueueEmptyAt.servedAt ?_)
            · refine (entry_returnHome_ne hx).trans ?_
              exact (entry_createRecord ..).trans (if_neg (Ne.symm hx))
            · refine queueEmptyAt_returnHome (queueEmptyAt_of_entry (d := d.createRecord e (q.record p.key)) rfl fun t ht => ?_)
              rw [entry_createRecord, if_pos rfl] at ht
              cases ht
              rfl

theorem served_amendControl (hs : d.QueuesServed) : (amendControl p d).1.QueuesServed := by
  unfold amendControl
  split
  · exact hs
  · exact hs
  · next y _ _ =>
    refine served_evaluate (served_of_else (fun _ hx => entry_modifyEntry_ne hx _) hs
      (servedAt_map (f := fun r => { r with policy := y, holders := r.holders.map (Holder.afterAmend r.policy y) })
        (fun _ => rfl) (fun _ => rfl) (fun r => ?_) (fun _ => rfl) (queuesServed_iff.mp hs 0))) 0
    rw [List.map_map]
    exact List.map_congr_left fun h _ => by simp [Holder.claim]

theorem queueEmptyAt_amendGroup {og : Option GroupIx} {q : Option SteerParams} (h : d.QueueEmptyAt e) :
    (d.amendGroup e og q).QueueEmptyAt e := by
  cases q with
  | none => exact queueEmptyAt_of_entry (entry_unbindGroup ..) h
  | some s =>
    unfold Device.amendGroup
    dsimp only
    split
    · exact queueEmptyAt_returnHome (queueEmptyAt_of_entry (d := d) rfl h)
    · refine queueEmptyAt_returnHome (queueEmptyAt_of_entry (d := d.unbindGroup og) rfl ?_)
      exact queueEmptyAt_of_entry (entry_unbindGroup ..) h

theorem entry_amendGroup_ne {og : Option GroupIx} {q : Option SteerParams} {x : EntryIx} (hx : x ≠ e) :
    (d.amendGroup e og q).entry x = d.entry x := by
  cases q with
  | none => exact entry_unbindGroup ..
  | some s =>
    unfold Device.amendGroup
    dsimp only
    split
    · exact entry_returnHome_ne hx
    · exact (entry_returnHome_ne hx).trans (entry_unbindGroup ..)

theorem served_takeAmend (hs : d.QueuesServed) : (takeAmend a p d).1.QueuesServed := by
  unfold takeAmend
  split
  · exact hs
  · next e r hl =>
    split
    · exact served_amendControl hs
    · split
      · exact hs
      · split
        · exact hs
        · split
          · exact hs
          · split
            · exact hs
            · next hbusy =>
              split
              · exact hs
              · refine served_of_else (e := e) (fun x hx => (entry_amendGroup_ne hx).trans (entry_modifyEntry_ne hx _)) hs
                  (queueEmptyAt_amendGroup fun s hs' => ?_).servedAt
                rw [Device.entry_modifyEntry, if_pos rfl, lookup_entry hl] at hs'
                cases hs'
                exact not_not.mp (not_or.mp hbusy).2

end

end Sys2Proof.Machine
end

section
/-!
PROOFS. The state after a cold reset is safe, whatever the levels on the inputs (R20).
-/
namespace Sys2Proof.Machine

section
variable (b : Agent) (p : Pins)

theorem queuesServed_cold : (Device.cold b p).QueuesServed := by
  refine queuesServed_iff.mpr fun e r hr => ?_
  obtain ⟨-, rfl⟩ := control_of_entry_cold hr
  exact served_nil rfl

theorem quotasKept_cold : (Device.cold b p).QuotasKept :=
  quotasKept_iff.mpr fun _ => ⟨(sumEntries_cold b p rfl).trans_le (Nat.zero_le _), (sumEntries_cold b p rfl).trans_le (Nat.zero_le _)⟩

theorem state_agent_cold (a : Agent) : ((Device.cold b p).agent a).state = .offline := by rw [agent_cold]; rfl

/-- What the cold device has recorded, where a warm reset is held (R174). -/
theorem recorded_cold {v : Vector Roster 8} (h : (Device.cold b p).recorded = some v) (a : Agent) : tget v a = .offline := by
  simp only [Device.cold] at h
  split at h
  · cases h; exact tget_replicate ..
  · cases h

theorem rosterSound_cold : (Device.cold b p).RosterSound where
  absent a _ e r hr := by
    obtain ⟨-, rfl⟩ := control_of_entry_cold hr
    rfl
  waitless a _ e r hr := by
    obtain ⟨-, rfl⟩ := control_of_entry_cold hr
    rfl
  untold a _ e := notice_cold b p e a
  recorded v hv := by
    refine ⟨fun a => (recorded_cold b p hv a).trans (state_agent_cold b p a).symm, rfl, rfl, fun e r hr => ?_, notice_cold b p⟩
    obtain ⟨-, rfl⟩ := control_of_entry_cold hr
    rfl
  window _ := by
    refine iff_of_false (by simp [Device.cold]) ?_
    rintro ⟨a, ha⟩
    rw [state_agent_cold] at ha
    cases ha

theorem state_chan_cold (a : Agent) : ((Device.cold b p).chan a).state =
    if p.holdsReset || tget p.agrstLow a then .reset else .ready := by
  rw [chan_cold]
  split <;> rfl

theorem latched_chan_cold (a : Agent) : ((Device.cold b p).chan a).latched = none := by
  rw [chan_cold]
  split <;> rfl

end

theorem held_of_cold {s : State} {b : Agent} {p : Pins} (h : s.dev = some (.cold b p)) : s.held = s.pins.holdsReset := by
  simp [State.held, h, Device.cold]

theorem channelsSound_cold {s : State} {b : Agent} (h : s.dev = some (.cold b s.pins)) : s.ChannelsSound where
  held d hd := by
    rw [h] at hd
    cases hd
    rw [held_of_cold h]
    simp only [Device.cold]
    split <;> simp_all
  reset d hd a := by
    rw [h] at hd
    cases hd
    rw [held_of_cold h, state_chan_cold]
    split <;> simp_all
  settled d hd a := by
    rw [h] at hd
    cases hd
    rw [state_chan_cold]
    split <;> decide
  latched d hd a _ := by
    rw [h] at hd
    cases hd
    exact latched_chan_cold ..
  flight d hd a hf := by
    rw [h] at hd
    cases hd
    rw [state_chan_cold] at hf
    split at hf <;> cases hf

/-- A state whose part has just come out of a cold reset. -/
theorem safe_cold {s : State} {b : Agent} (h : s.dev = some (.cold b s.pins)) : s.Safe := by
  have holds : ∀ {P : Device → Prop}, P (.cold b s.pins) → s.Holds P := fun hP d hd => by
    rw [h] at hd
    cases hd
    exact hP
  exact ⟨holds (namesSound_cold ..), holds (poolBounded_cold b s.pins), holds (queuesOrdered_cold b s.pins), holds (consistent_cold b s.pins),
    holds (controlLeaseKept_cold ..), holds (queuesServed_cold ..), holds (quotasKept_cold ..), holds (rosterSound_cold ..),
    channelsSound_cold h⟩

/-- Settles O60: the reset state is the state of a cold reset with 0 on BOOTSEL. -/
theorem resetIsSafe : Obligations.ResetIsSafe := safe_cold (b := 0) rfl

end Sys2Proof.Machine
end

section
/-!
PROOFS. Queues served (R75, R103) after the roster commands, the steering events, the timers and the resets.
-/
namespace Sys2Proof.Machine

section
variable {d d' : Device} {e : EntryIx} {r : Record} {a : Agent} {p : Params} {g : GroupIx}

/-! ### Roster commands -/

theorem served_bootHandOn {q : Prop} [Decidable q] (hc : d.Consistent) (hs : d.QueuesServed) (e : EntryIx) :
    (if q then d.handOn e else d).QueuesServed := by
  split
  · exact served_handOn hc hs e
  · exact hs

theorem served_evaluateHolds (hs : d.QueuesServed) (a : Agent) : (d.evaluateHolds a).QueuesServed := by
  unfold Device.evaluateHolds
  generalize allEntries = l
  induction l generalizing d with
  | nil => exact hs
  | cons e l ih =>
    refine ih ?_
    dsimp only
    split
    · split
      · exact served_evaluate hs e
      · exact hs
    · exact hs

theorem served_takeRejoin (hc : d.Consistent) (hs : d.QueuesServed) : (takeRejoin a p d).1.QueuesServed := by
  unfold takeRejoin
  split
  · have hc' : ((d.setRoster a .online).evaluateHolds a).Consistent :=
      (steady_evaluateHolds _ a).consistent (consistent_setRoster hc)
    have hs' : ((d.setRoster a .online).evaluateHolds a).QueuesServed :=
      served_evaluateHolds (served_of_slots (d := d) (Device.setRoster_slots d a .online) hs) a
    dsimp only
    exact served_of_slots (slots_closeWindow _) (served_bootHandOn hc' hs' 0)
  · exact hs

theorem served_takeDetach (hc : d.Consistent) (hs : d.QueuesServed) : (takeDetach a p d).1.QueuesServed := by
  unfold takeDetach done
  dsimp only
  exact served_depart [a] .offline hc hs

theorem served_takeFence (hc : d.Consistent) (hs : d.QueuesServed) : (takeFence a p d).1.QueuesServed := by
  unfold takeFence
  split
  · exact hs
  · next x _ =>
    split
    · exact hs
    · dsimp only
      split
      · exact hs
      · exact served_of_slots (d := d) rfl hs
      · dsimp only; exact served_depart [x] .fenced hc hs
      · dsimp only; exact served_depart [x] .fenced hc hs

theorem served_takeUnfence (hs : d.QueuesServed) : (takeUnfence a p d).1.QueuesServed := by
  unfold takeUnfence
  split
  · exact hs
  · split <;> exact served_of_slots (d := d) rfl hs

theorem served_takeSetAgent (hs : d.QueuesServed) : (takeSetAgent a p d).1.QueuesServed := by
  unfold takeSetAgent
  split
  · exact hs
  · split <;> exact served_of_slots (d := d) rfl hs

theorem served_attachBack (hc : d.Consistent) (hs : d.QueuesServed) (a : Agent) : (d.attachBack a).QueuesServed := by
  refine served_of_slots slots_attachBack ?_
  have hc₀ : (d.setRoster a .offline).Consistent := consistent_setRoster hc
  have hs₀ : (d.attachLeft a).QueuesServed := served_departEntry [a] hc₀ (served_of_slots (d := d) rfl hs)
  have hc₁ : (d.attachLeft a).Consistent := (steady_departEntry [a] _ 0).consistent hc₀
  unfold Device.attachGone
  split
  · exact served_departEntries [a] _ ((steady_advanceTicket _).consistent hc₁) (served_of_slots (d := d.attachLeft a) rfl hs₀)
  · exact served_departEntries [a] _ hc₁ hs₀

theorem served_attachRejoining (hc : d.Consistent) (hs : d.QueuesServed) (a : Agent) : (d.attachRejoining a).QueuesServed := by
  have hb := served_attachBack hc hs a
  rw [attachRejoining_eq]
  split
  · next hl =>
    obtain ⟨r, hr, -, -, hq, -⟩ := leaseFree_iff.mp (Bool.and_eq_true_iff.mp (Bool.and_eq_true_iff.mp hl).1).2
    have hr : (d.attachBack a).entry 0 = some r := by
      rw [← hr]; unfold Device.entry; rw [slot_zero_attachBack]
    refine served_evaluate (served_of_slots (post_slots ..) ?_) 0
    exact (onlyEntry_addHolder ..).reaches.served hb (servedAt_of_record (replaces_addHolder hr _).entry_same (served_nil hq))
  · exact served_bootHandOn (consistent_attachBack hc) hb 0

theorem served_takeAttach (hc : d.Consistent) (hs : d.QueuesServed) : (takeAttach a p d).1.QueuesServed := by
  unfold takeAttach
  split
  · exact hs
  · exact hs
  · exact served_bootHandOn (consistent_setRoster hc) (served_of_slots (d := d) rfl hs) 0
  · dsimp only; exact served_attachRejoining hc hs a

/-! ### Steering -/

/-- The device with group `g` leaving SWITCHING or FAULTED, and its entry with it. -/
theorem consistent_leaves {b : Binding} (hc : d.Consistent) (hb : (d.group g).binding = some b) (hr : d.entry b.entry = some r)
    (hs : (d.group g).state = .switching ∨ (d.group g).state = .faulted) {x : GroupRec} (hx : x.binding = some b)
    {o : Occupancy} (ho : Leaves o x.state) : ((d.putRecord b.entry { r with occupancy := o }).setGroup g x).Consistent :=
  (steady_leaves hb hr hs hx ho).consistent hc

theorem entry_leaves (d : Device) (e : EntryIx) (s : Record) (g : GroupIx) (x : GroupRec) :
    ((d.putRecord e s).setGroup g x).entry e = some s := (entry_putRecord ..).trans (if_pos rfl)

theorem entry_leaves_ne {y : EntryIx} (hy : y ≠ e) (d : Device) (s : Record) (g : GroupIx) (x : GroupRec) :
    ((d.putRecord e s).setGroup g x).entry y = d.entry y := (entry_putRecord ..).trans (if_neg (Ne.symm hy))

/-- An entry that leaves SWITCHING or FAULTED and is handed on. -/
theorem served_leaves_handOn (hs : d.QueuesServed) (hr : d.entry e = some r) {x : GroupRec} {o : Occupancy}
    (hc : ((d.putRecord e { r with occupancy := o }).setGroup g x).Consistent) :
    (((d.putRecord e { r with occupancy := o }).setGroup g x).handOn e).QueuesServed := by
  refine served_then_handOn (fun y hy => entry_leaves_ne hy ..) hs hc fun s hs' hn => ?_
  rw [entry_leaves] at hs'
  cases hs'
  exact hs.retiring e r hr hn

theorem served_takeClearFault (hc : d.Consistent) (hs : d.QueuesServed) : (takeClearFault a p d).1.QueuesServed := by
  unfold takeClearFault
  split
  · exact hs
  · next g _ =>
    split
    · next hf =>
      obtain ⟨b, r, hb, hr, -⟩ := hc.steered (g := g) (by rw [hf]; decide)
      unfold done Device.clearGroupFault
      dsimp only
      split
      · next hb' => cases hb.symm.trans hb'
      · next b' hb' =>
        cases hb.symm.trans hb'
        rw [setGroup_modifyEntry hr]
        exact served_leaves_handOn hs hr (consistent_leaves (x := { d.group g with state := .settled, settleKnown := false })
          hc hb hr (.inr hf) hb .settled)
    · exact hs

theorem reaches_settleGrant (d : Device) (e : EntryIx) (r : Record) (c : WaitCell) : Reaches e d (d.settleGrant e r c) := by
  unfold Device.settleGrant
  dsimp only
  have h := ((onlyEntry_removeCell d e c.agent).trans
    (onlyEntry_newGrant _ e c.agent .exclusive c.priority (r.grantedTerm c.term))).reaches
  split
  · exact h.trans (reaches_finish ..)
  · exact h.trans (onlyEntry_post ..).reaches

theorem slots_settleGrant (hr : d.entry e = some r) {c : WaitCell} (hm : c.mode = .exclusive) {q : Record}
    (hq : q.grantedTerm c.term = r.grantedTerm c.term) : (d.settleGrant e q c).slots = (d.grantCell e c).slots := by
  have heq : (d.removeCell e c.agent).newGrant e c.agent .exclusive c.priority (q.grantedTerm c.term) = d.grantCell e c := by
    unfold Device.grantCell
    rw [hr, hq]
    simp [hm]
  unfold Device.settleGrant
  dsimp only
  rw [heq]
  split
  · rfl
  · exact post_slots ..

/-- The target cell of a switch granted at the settle (R120). -/
theorem servedAt_settleGrant (hr : d.entry e = some r) {c : WaitCell} (hl : r.lifecycle = .live)
    (hg : Record.Grantable d r c) (hm : c.mode = .exclusive) (hh : r.holders = []) {q : Record}
    (hq : q.grantedTerm c.term = r.grantedTerm c.term) (hc : d.Consistent) : (d.settleGrant e q c).ServedAt e := by
  have hr' : (d.settleGrant e q c).entry e = some (r.grant c d.ticket) :=
    (entry_of_slots (slots_settleGrant hr hm hq) e).trans (replaces_grantCell hr c).entry_same
  exact servedAt_of_record hr' (served_grant (((calm_settleGrant hr hg hm hq).consistent hc).at hr').agrees hl hh hm)

theorem served_settle (hq : (d.group g).requesting = true) (hc : d.Consistent) (hs : d.QueuesServed) :
    (d.settle g).QueuesServed := by
  obtain ⟨hst, -⟩ := requesting_iff.mp hq
  obtain ⟨b, r, hb, hr, hrg⟩ := hc.steered (g := g) (by rw [hst]; decide)
  have hl := consistent_leaves (x := (d.group g).settled) hc hb hr (.inl hst) hb .settled
  have heq : (d.setGroup g (d.group g).settled).modifyEntry b.entry (fun r => { r with occupancy := .idle }) =
      (d.putRecord b.entry { r with occupancy := .idle }).setGroup g (d.group g).settled := setGroup_modifyEntry hr _ _
  unfold Device.settle
  dsimp only
  split
  · next hb' => cases hb.symm.trans hb'
  next b' hb' =>
  cases hb.symm.trans hb'
  split
  · next hr' => cases hr.symm.trans hr'
  next r' hr' =>
  cases hr.symm.trans hr'
  rcases settleEntry_cases (d.setGroup g (d.group g).settled) b.entry r with ⟨c, ht, hcase⟩ | ⟨-, hcase⟩ <;>
    refine hcase ▸ ?_ <;> rw [heq]
  · obtain ⟨hgr, hm⟩ := grantable_target hc hb hr hq ht
    have hlive : r.lifecycle = .live := by
      by_contra hn
      have := (targetCell_eq_some ht).2.1
      rw [hs.retiring _ r hr hn] at this
      cases this
    refine served_evaluate (served_of_else (e := b.entry) (fun y hy => ?_) hs ?_) b.entry
    · exact ((reaches_settleGrant ..).entry hy).trans (entry_leaves_ne hy ..)
    · have hr' := entry_leaves d b.entry { r with occupancy := .idle } g (d.group g).settled
      have hv : r.holders = [] := hc.vacant hr hrg (.inl hst)
      exact servedAt_settleGrant hr' hlive hgr hm hv rfl hl
  · exact served_leaves_handOn hs hr hl

theorem served_stdoneRise (hc : d.Consistent) (hs : d.QueuesServed) (g : GroupIx) : (d.stdoneRise g).QueuesServed := by
  unfold Device.stdoneRise
  split
  · next hq => exact served_settle hq hc hs
  · exact served_of_slots (d := d) rfl hs

theorem slots_stdoneFall (d : Device) (g : GroupIx) : (d.stdoneFall g).slots = d.slots := by
  unfold Device.stdoneFall
  dsimp only
  split
  · split
    · rfl
    · split <;> rfl
  · rfl

/-- Entry `e` is FAULTED, where it is not FREE. -/
def Device.FaultedAt (d : Device) (e : EntryIx) : Prop := ∀ r, d.entry e = some r → r.occupancy = .faulted

theorem servedAt_of_faulted (hf : d.FaultedAt e) (hret : d.RetiringEmpty e) : d.ServedAt e := fun r hr =>
  served_of_undecidable (by simp [Record.decidable, hf r hr]) (hret r hr)

theorem reaches_dropTarget (d : Device) (e : EntryIx) (r : Record) : Reaches e d (d.dropTarget e r) := by
  unfold Device.dropTarget
  split
  · exact .refl e d
  · exact (reaches_tellWaiter ..).trans (onlyEntry_removeCell ..).reaches

theorem servedAt_dropTarget (hf : d.FaultedAt e) (hret : d.RetiringEmpty e) (q : Record) : (d.dropTarget e q).ServedAt e := by
  unfold Device.dropTarget
  split
  · exact servedAt_of_faulted hf hret
  · next c _ =>
    refine servedAt_of_faulted (fun s hs => ?_) (retiringEmpty_removeCell _ (retiringEmpty_of_slots (slots_tellWaiter ..) hret))
    rw [Device.removeCell, Device.entry_modifyEntry, if_pos rfl, entry_of_slots (slots_tellWaiter ..)] at hs
    obtain ⟨r₀, hr₀, rfl⟩ := Option.map_eq_some_iff.mp hs
    exact hf r₀ hr₀

theorem served_switchFails (hst : (d.group g).state = .switching) (hc : d.Consistent) (hs : d.QueuesServed) :
    (d.switchFails g).QueuesServed := by
  obtain ⟨b, r, hb, hr, -⟩ := hc.steered (g := g) (by rw [hst]; decide)
  unfold Device.switchFails
  dsimp only
  split
  · next hb' => cases hb.symm.trans hb'
  next b' hb' =>
  cases hb.symm.trans hb'
  split
  · next hr' => cases hr.symm.trans hr'
  next r' hr' =>
  cases hr.symm.trans hr'
  rw [setGroup_modifyEntry hr]
  refine served_evaluate (served_checkDrain (served_of_else (e := b.entry) (fun y hy => ?_) hs ?_) _) _
  · exact ((reaches_dropTarget ..).entry hy).trans (entry_leaves_ne hy ..)
  · refine servedAt_dropTarget (fun s hs' => ?_) (fun s hs' hn => ?_) r <;> rw [entry_leaves] at hs' <;> cases hs'
    · rfl
    · exact hs.retiring _ r hr hn

/-! ### Timers, resets and transactions -/

theorem served_mapsRecords {f : Record → Record} (h : MapsRecords f d d') (hf : ∀ r : Record, r.Served → (f r).Served)
    (hs : d.QueuesServed) : d'.QueuesServed := by
  rw [queuesServed_iff] at hs ⊢
  intro e s hs'
  obtain ⟨r, hr, rfl⟩ := h.entry_some hs'
  exact hf r (hs e r hr)

theorem served_tick (hs : d.QueuesServed) : d.tick.QueuesServed := by
  refine served_mapsRecords (mapsRecords_tick d) (fun r => served_of_alike rfl rfl ?_ ?_) hs <;>
    exact (List.map_map).trans (List.map_congr_left fun _ _ => rfl)

theorem served_warmBegin (d : Device) : d.warmBegin.QueuesServed := by
  refine queuesServed_iff.mpr fun e s hs => ?_
  obtain ⟨r, -, rfl⟩ := (mapsRecords_warmBegin d).entry_some hs
  exact served_nil rfl

theorem served_warmRelease (hc : d.Consistent) (hs : d.QueuesServed) (q : Pins) : (d.warmRelease q).QueuesServed := by
  have hl : (d.leaveReset q).Consistent := consistent_of_stdone (d := d) rfl (fun g => ⟨_, group_leaveReset d q g⟩) hc
  have hd : (d.releaseDrained q).QueuesServed := by
    unfold Device.releaseDrained
    exact served_foldl (fun d e => (steady_checkDrain d e).toCalm) (fun _ e _ h => served_checkDrain h e) _
      (consistent_depart hl) (served_depart _ .offline hl (served_of_slots (d := d) rfl hs))
  rw [warmRelease_eq]
  generalize d.releaseDrained q = x at hd
  exact served_of_slots (d := x) rfl hd

theorem served_termExpires (hc : d.Consistent) (hs : d.QueuesServed) (e : EntryIx) (a : Agent) (t : Ticket) :
    (d.termExpires e a t).QueuesServed := by
  unfold Device.termExpires
  split
  · exact hs
  · next h hn =>
    split
    · obtain ⟨r, hr, hh⟩ := held_of_named hn
      exact served_then_handOn (fun _ => ((onlyEntry_endGrant d e a).trans (onlyEntry_post ..)).reaches.entry) hs
        (((steady_endGrant_held hr hh).trans (steady_post ..)).consistent hc)
        (retiringEmpty_post (retiringEmpty_endGrant a (queuesServed_iff.mp hs e).retiringEmpty))
    · exact hs

theorem served_waitExpires (hc : d.Consistent) (hs : d.QueuesServed) (e : EntryIx) (a : Agent) :
    (d.waitExpires e a).QueuesServed := by
  unfold Device.waitExpires
  split
  · exact hs
  · split
    · exact served_then_handOn (fun _ => ((onlyEntry_removeCell d e a).trans (onlyEntry_post ..)).reaches.entry) hs
        (((steady_removeCell d e a).trans (steady_post ..)).consistent hc)
        (retiringEmpty_post (retiringEmpty_removeCell a (queuesServed_iff.mp hs e).retiringEmpty))
    · exact hs

theorem served_graceExpires (hc : d.Consistent) (hs : d.QueuesServed) (e : EntryIx) (a : Agent) (t : Ticket) :
    (d.graceExpires e a t).QueuesServed := by
  unfold Device.graceExpires
  split
  · exact hs
  · next h hn =>
    split
    · obtain ⟨r, hr, hh⟩ := held_of_named hn
      exact served_revoke hr hh hc hs
    · exact hs

theorem served_taken (x : Expiry) (hc : d.Consistent) (hs : d.QueuesServed) : (x.taken d).QueuesServed := by
  cases x with
  | term e a t => exact served_termExpires hc hs e a t
  | wait e a => exact served_waitExpires hc hs e a
  | grace e a t => exact served_graceExpires hc hs e a t
  | switch g =>
    unfold Expiry.taken Device.switchExpires
    dsimp only
    split
    · next h => exact served_switchFails h.1 hc hs
    · exact hs
  | window => exact served_depart _ .offline hc hs

theorem served_takeIssued (x : Expiry) (hc : d.Consistent) (hs : d.QueuesServed) : (d.takeIssued x x.taken).QueuesServed := by
  unfold Device.takeIssued
  split
  · exact served_taken x (consistent_of_same (d := d) rfl rfl hc) (served_of_slots (d := d) rfl hs)
  · exact hs

theorem served_agentReset (hc : d.Consistent) (hs : d.QueuesServed) (a : Agent) : (d.agentReset a).QueuesServed := by
  have hc' : (d.setChan a .inReset).Consistent := (steady_setChan ..).consistent hc
  have hs' : (d.setChan a .inReset).QueuesServed := served_of_slots (d := d) rfl hs
  unfold Device.agentReset
  dsimp only
  split
  · exact served_depart [a] .offline hc' hs'
  · exact served_depart [a] .offline hc' hs'
  · exact hs'
  · exact hs'

theorem served_abort (hc : d.Consistent) (hs : d.QueuesServed) (a : Agent) : (d.abort a).QueuesServed := by
  unfold Device.abort
  split
  · split
    · exact hs
    · split
      · exact hs
      · next e r _ =>
        exact served_then_handOn (fun _ => ((reaches_finish e d a ..).trans (onlyEntry_removeCell ..).reaches).entry) hs
          (((steady_finish ..).trans (steady_removeCell ..)).consistent hc)
          (retiringEmpty_removeCell a (retiringEmpty_of_slots (d := d) rfl (queuesServed_iff.mp hs e).retiringEmpty))
  · exact hs

theorem slots_ack (d : Device) (a : Agent) : (d.ack a).slots = d.slots := by
  unfold Device.ack
  split <;> rfl

theorem served_applyWrites (hc : d.Consistent) (hs : d.QueuesServed) (a : Agent) (w : Writes) : (d.applyWrites a w).QueuesServed := by
  have hc' : (d.setChan a ((d.chan a).writeRegisters w)).Consistent := (steady_setChan ..).consistent hc
  have hs' : (d.setChan a ((d.chan a).writeRegisters w)).QueuesServed := served_of_slots (d := d) rfl hs
  unfold Device.applyWrites
  dsimp only
  split <;> split
  · exact served_of_slots (slots_ack ..) (served_abort hc' hs' a)
  · exact served_of_slots (slots_ack ..) hs'
  · exact served_abort hc' hs' a
  · exact hs'

theorem slots_manyTriggers (d : Device) (a : Agent) : (d.manyTriggers a).slots = d.slots := by
  unfold Device.manyTriggers
  split <;> rfl

/-- A rule that keeps the queues served, in whatever state the attach check lets it act on. -/
def Take.Serves (c : Cmd) (t : Take) : Prop :=
  ∀ a p d, attachCheck c (d.agent a).state = none → d.Consistent → d.QueuesServed → (t a p d).1.QueuesServed

theorem served_takeOf (c : Cmd) : Take.Serves c (takeOf c) := by
  intro a p d ha hc hs
  cases c with
  | attach => exact served_takeAttach (p := p) hc hs
  | detach => exact served_takeDetach (p := p) hc hs
  | rejoin => exact served_takeRejoin (p := p) hc hs
  | openEntry => exact served_takeOpen (a := a) (p := p) hs
  | query =>
    simp only [takeOf, takeQuery]
    split <;> exact hs
  | request => exact served_takeRequest (attachCheck_request ha) hc hs
  | release => exact served_takeRelease hc hs
  | renew => exact served_takeRenew hs
  | downgrade => exact served_takeDowngrade hc hs
  | cancel => exact served_takeCancel hc hs
  | check =>
    simp only [takeOf, takeCheck]
    split
    · exact hs
    · split
      · exact hs
      · split <;> exact hs
  | takeNotice =>
    simp only [takeOf, takeTakeNotice]
    split <;> exact served_of_slots (d := d) rfl hs
  | retire => exact served_takeRetire hs
  | define => exact served_takeDefine (a := a) (p := p) hs
  | amend => exact served_takeAmend (a := a) (p := p) hs
  | forceRelease => exact served_takeForceRelease hc hs
  | fence => exact served_takeFence (a := a) (p := p) hc hs
  | unfence => exact served_takeUnfence (a := a) (p := p) hs
  | setAgent => exact served_takeSetAgent (a := a) (p := p) hs
  | configure =>
    simp only [takeOf, takeConfigure]
    split <;> exact served_of_slots (d := d) rfl hs
  | clearFault => exact served_takeClearFault (a := a) (p := p) hc hs
  | warmReset => exact served_of_slots (d := d.warmBegin) rfl (served_warmBegin d)

theorem served_trigger {c : Cmd} {t : Take} (ht : Take.Serves c t) (hc : d.Consistent) (hs : d.QueuesServed) (a : Agent) :
    (d.trigger a c t).QueuesServed := by
  have hc' : (d.setChan a ((d.chan a).start c)).Consistent := (steady_setChan ..).consistent hc
  have hs' : (d.setChan a ((d.chan a).start c)).QueuesServed := served_of_slots (d := d) rfl hs
  unfold Device.trigger
  split
  · have hj : ((d.setChan a ((d.chan a).start c)).judge a c t).1.QueuesServed := by
      unfold Device.judge
      split
      · exact hs'
      · next ha =>
        split
        · exact hs'
        · exact ht a _ _ ha hc' hs'
    unfold Device.runCommand writeBack
    split
    · exact served_of_slots (d := ((d.setChan a ((d.chan a).start c)).judge a c t).1) rfl hj
    · exact hj
  · exact served_of_slots (d := d) rfl hs

theorem served_liveEvent {q q' : Pins} {f : Device → Device} (h : LiveEvent q q' f) (hc : d.Consistent) (hs : d.QueuesServed) :
    (f d).QueuesServed := by
  have written : ∀ ch w, (d.applyWrites ch w).Consistent := fun ch w => (steady_applyWrites d ch w).consistent hc
  cases h with
  | command c ch w =>
    unfold commandWrite
    split
    · exact hs
    · split
      · exact served_trigger (served_takeOf c) (written ch w) (served_applyWrites hc hs ch w) ch
      · exact served_of_slots (slots_manyTriggers ..) (served_applyWrites hc hs ch w)
  | link ch w =>
    unfold linkWrite
    split
    · exact hs
    · split
      · exact served_applyWrites hc hs ch w
      · next c _ => exact served_trigger (served_takeOf c) (written ch w) (served_applyWrites hc hs ch w) ch
      · exact served_of_slots (slots_manyTriggers ..) (served_applyWrites hc hs ch w)
  | agrstFall a => exact served_agentReset hc hs a
  | agrstRise a => exact served_of_slots (d := d) rfl hs
  | stdoneRise g => exact served_stdoneRise hc hs g
  | stdoneFall g => exact served_of_slots (slots_stdoneFall d g) hs
  | tick => exact served_tick hs
  | refclk => exact served_of_slots (d := d) rfl hs
  | expiry x => exact served_takeIssued x hc hs

end

end Sys2Proof.Machine
end

section
/-!
PROOFS. Switches in flight (R121, R122): an operation leaves a channel as it was, with the flagged cell it waits for, or
completes its IN_FLIGHT REQUEST.
-/
namespace Sys2Proof.Machine

/-- The entry is SWITCHING for agent `a`, which has its flagged cell there, with no deadline (R121). -/
def Record.Awaits (r : Record) (a : Agent) : Prop :=
  r.occupancy = .switching (.agent a) ∧ ∃ c ∈ r.queue, c.agent = a ∧ c.target = true ∧ c.deadline = none

/-- The handle names slot `e` in its present generation (R8). -/
structure Device.Names (d : Device) (h : Handle) (e : EntryIx) : Prop where
  index : handleIndex h = e.val
  nonzero : handleGeneration h ≠ 0
  generation : handleGeneration h = (d.slot e).generation

/-- The REQUEST of agent `a` is in flight on entry `e`. -/
structure Device.Flies (d : Device) (a : Agent) (e : EntryIx) : Prop where
  state : (d.chan a).state = .inFlight
  complete : (d.chan a).complete = false
  latched : ∃ p, (d.chan a).latched = some ⟨.request, p⟩ ∧ d.Names p.handle e
  target : ∃ r, d.entry e = some r ∧ r.Awaits a

/-- A channel whose IN_FLIGHT REQUEST has completed (R163). -/
structure Channel.Lands (c c' : Channel) : Prop where
  before : c.state = .inFlight
  state : c'.state = .ready
  latched : c'.latched = none

/-- From `d` to `d'` each channel is left, with its flight, or lands. -/
structure Links (d d' : Device) : Prop where
  chan : ∀ a, (d'.chan a = d.chan a ∧ ∀ e, d.Flies a e → d'.Flies a e) ∨ (d.chan a).Lands (d'.chan a)

section
variable {d d' d'' : Device} {e : EntryIx} {r : Record} {a : Agent}

theorem lookup_ok_iff {h : Handle} : d.lookup h = .ok (e, r) ↔ d.Names h e ∧ d.entry e = some r := by
  constructor
  · intro hl
    have hr := lookup_entry hl
    unfold Device.lookup at hl
    split at hl
    · next lt =>
      split at hl
      · cases hl
      · next h0 =>
        dsimp only at hl
        split at hl
        · cases hl
        · split at hl
          · next hg => cases hl; exact ⟨⟨rfl, h0, hg⟩, hr⟩
          · cases hl
    · cases hl
  · rintro ⟨⟨hi, h0, hg⟩, hr⟩
    have hlt : handleIndex h < 128 := hi ▸ e.isLt
    have he : (⟨handleIndex h, hlt⟩ : EntryIx) = e := Fin.ext hi
    unfold Device.lookup
    rw [dif_pos hlt, if_neg h0, he]
    simp only [hr]
    exact if_pos hg

namespace Links

theorem refl (d : Device) : Links d d := ⟨fun _ => .inl ⟨rfl, fun _ => id⟩⟩

theorem trans (h : Links d d') (h' : Links d' d'') : Links d d'' := by
  refine ⟨fun a => ?_⟩
  rcases h.chan a with ⟨hc, hf⟩ | hl <;> rcases h'.chan a with ⟨hc', hf'⟩ | hl'
  · exact .inl ⟨hc'.trans hc, fun e h => hf' e (hf e h)⟩
  · exact .inr (hc ▸ hl')
  · exact .inr (by rw [hc']; exact hl)
  · have := hl'.before
    rw [hl.state] at this
    cases this

theorem foldl {α : Type} (f : Device → α → Device) (hf : ∀ d x, Links d (f d x)) (l : List α) (d : Device) :
    Links d (l.foldl f d) := by
  induction l generalizing d with
  | nil => exact refl d
  | cons x l ih => exact (hf d x).trans (ih _)

/-- A channel that is not IN_FLIGHT is left as it was. -/
theorem chan_of_ne (h : Links d d') (hn : (d.chan a).state ≠ .inFlight) : d'.chan a = d.chan a := by
  rcases h.chan a with ⟨hc, -⟩ | hl
  · exact hc
  · exact absurd hl.before hn

end Links

theorem chan_of_channels (h : d'.channels = d.channels) (a : Agent) : d'.chan a = d.chan a := by
  unfold Device.chan; rw [h]

/-- Every channel left, and every flight whose entry goes on waiting. -/
theorem links_of_channels (hc : d'.channels = d.channels)
    (h : ∀ a e r, d.Flies a e → d.entry e = some r → r.Awaits a →
      (d'.slot e).generation = (d.slot e).generation ∧ ∃ r', d'.entry e = some r' ∧ r'.Awaits a) : Links d d' := by
  refine ⟨fun a => .inl ⟨chan_of_channels hc a, fun e hf => ?_⟩⟩
  obtain ⟨p, hp, hi, h0, hg⟩ := hf.latched
  obtain ⟨r, hr, hw⟩ := hf.target
  obtain ⟨hgen, hr'⟩ := h a e r hf hr hw
  refine ⟨?_, ?_, ⟨p, ?_, hi, h0, hg.trans hgen.symm⟩, hr'⟩ <;> rw [chan_of_channels hc]
  · exact hf.state
  · exact hf.complete
  · exact hp

theorem links_of_slots (hc : d'.channels = d.channels) (hs : d'.slots = d.slots) : Links d d' :=
  links_of_channels hc fun a e r _ hr hw => ⟨by unfold Device.slot; rw [hs], r, (entry_of_slots hs e).trans hr, hw⟩

/-- One slot changed. -/
theorem links_of_else (hc : d'.channels = d.channels) (hs : ∀ x, x ≠ e → d'.slot x = d.slot x)
    (h : ∀ a r, d.Flies a e → d.entry e = some r → r.Awaits a →
      (d'.slot e).generation = (d.slot e).generation ∧ ∃ r', d'.entry e = some r' ∧ r'.Awaits a) : Links d d' :=
  links_of_channels hc fun a x r hf hr hw => by
    by_cases hx : x = e
    · subst hx; exact h a r hf hr hw
    · rw [hs x hx]
      exact ⟨rfl, r, (by unfold Device.entry at hr ⊢; rw [hs x hx]; exact hr), hw⟩

theorem not_awaits_of_plain (h : r.isSwitching = false) : ¬ r.Awaits a := by
  rintro ⟨ho, -⟩
  simp [Record.isSwitching, ho] at h

/-- One slot changed whose entry is not SWITCHING. -/
theorem links_of_plain (hc : d'.channels = d.channels) (hs : ∀ x, x ≠ e → d'.slot x = d.slot x)
    (h : ∀ r, d.entry e = some r → r.isSwitching = false) : Links d d' :=
  links_of_else hc hs fun _ r _ hr hw => absurd hw (not_awaits_of_plain (h r hr))

theorem OnlyEntry.links (h : OnlyEntry e d d') (hp : ∀ r, d.entry e = some r → r.isSwitching = false) : Links d d' :=
  links_of_plain h.channels h.slots hp

/-- One slot changed that no flight waits for. -/
theorem links_of_none (hc : d'.channels = d.channels) (hs : ∀ x, x ≠ e → d'.slot x = d.slot x)
    (h : ∀ a, ¬ d.Flies a e) : Links d d' := links_of_else hc hs fun a _ hf _ _ => absurd hf (h a)

theorem links_modifyEntry {f : Record → Record} (h : ∀ a r, d.Flies a e → d.entry e = some r → r.Awaits a → (f r).Awaits a) :
    Links d (d.modifyEntry e f) := by
  refine links_of_else rfl (fun x hx => ?_) fun a r hf hr hw => ⟨Device.generation_modifyEntry .., f r, ?_, h a r hf hr hw⟩
  · unfold Device.modifyEntry; rw [Device.slot_setSlot, if_neg (Ne.symm hx)]
  · rw [Device.entry_modifyEntry, if_pos rfl, hr]; rfl

/-- Occupancy and queue as they were, or the queue with a cell more. -/
theorem awaits_of_subset {r' : Record} (ho : r'.occupancy = r.occupancy) (hq : ∀ c ∈ r.queue, c ∈ r'.queue) (h : r.Awaits a) :
    r'.Awaits a := by
  obtain ⟨hs, c, hc, hca⟩ := h
  exact ⟨ho.trans hs, c, hq c hc, hca⟩

theorem links_post (d : Device) (e : EntryIx) (a : Agent) (k : NoticeKind) : Links d (d.post e a k) :=
  links_of_slots (post_channels ..) (post_slots ..)

theorem links_enqueue (d : Device) (e : EntryIx) (c : WaitCell) : Links d (d.enqueue e c) :=
  links_modifyEntry fun _ _ _ _ => awaits_of_subset rfl fun _ hx => mem_insertCell.mpr (.inr hx)

theorem links_evaluate (d : Device) (e : EntryIx) : Links d (d.evaluate e) := by
  obtain ⟨f, hf, hk⟩ := entry_evaluate d e
  refine Links.trans (d' := d.modifyEntry e f) (links_modifyEntry fun a r _ _ hw => ?_)
    (links_of_slots (onlyEntry_evaluate d e).channels hf)
  obtain ⟨k, hk, -⟩ := hk r
  rw [hk]
  exact awaits_of_subset rfl (fun _ h => h) hw

theorem not_switching_of_decidable (h : r.decidable = true) : r.isSwitching = false := by
  simp only [Record.decidable, Bool.and_eq_true, Bool.not_eq_true'] at h
  exact h.1.2

theorem links_grantDecision (d : Device) (e : EntryIx) : Links d (d.grantDecision e) := by
  have h := onlyEntry_grantDecision d e
  cases hr : d.entry e with
  | none => exact h.links fun s hs => by rw [hr] at hs; cases hs
  | some r =>
    cases hd : r.decidable with
    | true => exact h.links fun s hs => by rw [hr] at hs; cases hs; exact not_switching_of_decidable hd
    | false =>
      have : d.grantDecision e = d := by simp [Device.grantDecision, hr, hd]
      rw [this]
      exact .refl d

theorem links_checkDrain (d : Device) (e : EntryIx) : Links d (d.checkDrain e) := by
  have h := onlyEntry_checkDrain d e
  cases hr : d.entry e with
  | none => exact h.links fun s hs => by rw [hr] at hs; cases hs
  | some r =>
    cases hsw : r.isSwitching with
    | false => exact h.links fun s hs => by rw [hr] at hs; cases hs; exact hsw
    | true =>
      have : d.checkDrain e = d := by
        simp only [Device.checkDrain, hr, hsw]
        cases r.lifecycle <;> simp
      rw [this]
      exact .refl d

theorem links_handOn (d : Device) (e : EntryIx) : Links d (d.handOn e) :=
  ((links_grantDecision ..).trans (links_checkDrain ..)).trans (links_evaluate ..)

/-- The cell of an agent that has no flight on the entry removed. -/
theorem links_removeCell (h : ¬ d.Flies a e) : Links d (d.removeCell e a) :=
  links_modifyEntry fun b r hf _ hw => by
    obtain ⟨ho, c, hc, hcb, hct⟩ := hw
    refine ⟨ho, c, List.mem_filter.mpr ⟨hc, ?_⟩, hcb, hct⟩
    have : b ≠ a := fun hb => h (hb ▸ hf)
    simpa [hcb] using this

/-- Nobody holds an entry that is SWITCHING (R4). -/
theorem plain_of_heldBy (hc : d.Consistent) (hr : d.entry e = some r) (hh : r.heldBy a = true) : r.isSwitching = false :=
  (plain_iff.mp (hc.plain_of_held hr fun h0 => by simp [heldBy_iff, h0] at hh)).1

theorem links_endGrant_held (hc : d.Consistent) (hr : d.entry e = some r) (hh : r.heldBy a = true) : Links d (d.endGrant e a) :=
  (onlyEntry_endGrant d e a).links fun s hs => by rw [hr] at hs; cases hs; exact plain_of_heldBy hc hr hh

/-! ### Completions of flights -/

/-- A channel written that has no flight. -/
theorem flies_setChan {b : Agent} (hb : a ≠ b) (x : Channel) (h : d.Flies b e) : (d.setChan a x).Flies b e := by
  have hx : (d.setChan a x).chan b = d.chan b := (Device.chan_setChan ..).trans (if_neg hb)
  obtain ⟨p, hp, hi, h0, hg⟩ := h.latched
  exact ⟨by rw [hx]; exact h.state, by rw [hx]; exact h.complete, ⟨p, by rw [hx]; exact hp, hi, h0, hg⟩, h.target⟩

theorem chan_finish (d : Device) (a : Agent) (c : Cmd) (x : Results) (b : Agent) :
    (d.finish a c x).chan b = if a = b then (d.chan a).finish (some c) x else d.chan b := Device.chan_setChan ..

/-- A flight completed (R163). -/
theorem links_finish (h : (d.chan a).state = .inFlight) (c : Cmd) (x : Results) : Links d (d.finish a c x) := by
  refine ⟨fun b => ?_⟩
  by_cases hb : a = b
  · subst hb
    refine .inr ⟨h, ?_, ?_⟩ <;> rw [chan_finish, if_pos rfl] <;> rfl
  · exact .inl ⟨by rw [chan_finish, if_neg hb], fun e hf => flies_setChan hb _ hf⟩

theorem inFlight_of_inFlightOn (h : d.inFlightOn a e = true) : (d.chan a).state = .inFlight :=
  eq_of_beq (Bool.and_eq_true_iff.mp h).1

theorem Device.Flies.inFlightOn (h : d.Flies a e) : d.inFlightOn a e = true := by
  obtain ⟨p, hp, hi, -⟩ := h.latched
  simp [Device.inFlightOn, h.state, hp, hi]

/-- No operation begins a flight on its way. -/
theorem Links.inFlightOn (h : Links d d') (hf : d'.inFlightOn a e = true) : d.inFlightOn a e = true := by
  rcases h.chan a with ⟨hc, -⟩ | hl
  · unfold Device.inFlightOn at hf ⊢; rw [hc] at hf; exact hf
  · have := inFlight_of_inFlightOn hf
    rw [hl.state] at this
    cases this

theorem not_inFlightOn_finish (d : Device) (a : Agent) (c : Cmd) (x : Results) (e : EntryIx) :
    (d.finish a c x).inFlightOn a e = false := by
  have : ((d.finish a c x).chan a).state = .ready := by rw [chan_finish, if_pos rfl]; rfl
  simp [Device.inFlightOn, this]

theorem links_abortFlight (d : Device) (e : EntryIx) (a : Agent) (p : Priority) : Links d (d.abortFlight e a p) := by
  unfold Device.abortFlight
  split
  · next h => exact links_finish (inFlight_of_inFlightOn h) ..
  · exact .refl d

theorem not_inFlightOn_abortFlight (d : Device) (e : EntryIx) (a : Agent) (p : Priority) :
    (d.abortFlight e a p).inFlightOn a e = false := by
  unfold Device.abortFlight
  split
  · exact not_inFlightOn_finish ..
  · next h => simpa using h

theorem not_flies_of (h : d.inFlightOn a e = false) : ¬ d.Flies a e := fun hf => by
  rw [hf.inFlightOn] at h; cases h

theorem links_tellWaiter (d : Device) (e : EntryIx) (c : WaitCell) (code : ResultCode) (k : NoticeKind) :
    Links d (d.tellWaiter e c code k) := by
  unfold Device.tellWaiter
  split
  · next h => exact links_finish (inFlight_of_inFlightOn h) ..
  · exact links_post ..

theorem not_inFlightOn_tellWaiter (d : Device) (e : EntryIx) (c : WaitCell) (code : ResultCode) (k : NoticeKind) :
    (d.tellWaiter e c code k).inFlightOn c.agent e = false := by
  unfold Device.tellWaiter
  split
  · exact not_inFlightOn_finish ..
  · next h =>
    have hc : (d.post e c.agent k).inFlightOn c.agent e = d.inFlightOn c.agent e := by
      unfold Device.inFlightOn
      rw [chan_of_channels (post_channels ..)]
    rw [hc]
    simpa using h

/-! ### Departures -/

theorem links_departWait (d : Device) (e : EntryIx) (a : Agent) : Links d (d.departWait e a) := by
  rcases departWait_cases d e a with ⟨h, -⟩ | ⟨r, c, -, -, h⟩ <;> rw [h]
  · exact .refl d
  · exact ((links_abortFlight ..).trans (links_removeCell (not_flies_of (not_inFlightOn_abortFlight ..)))).trans
      (links_grantDecision ..)

theorem links_departHold (hc : d.Consistent) (e : EntryIx) (a : Agent) : Links d (d.departHold e a) := by
  rcases departHold_cases d e a with ⟨h, -⟩ | ⟨r, hr, hh, h⟩ <;> rw [h]
  · exact .refl d
  · exact ((links_endGrant_held hc hr hh).trans (links_grantDecision ..)).trans (links_checkDrain ..)

/-- A fold of operations that keep records and groups in agreement. -/
theorem links_foldl {α : Type} {f : Device → α → Device} (hf : ∀ d x, Calm d (f d x))
    (hl : ∀ d x, d.Consistent → Links d (f d x)) (l : List α) {d : Device} (hc : d.Consistent) : Links d (l.foldl f d) := by
  induction l generalizing d with
  | nil => exact .refl d
  | cons x l ih => exact (hl d x hc).trans (ih ((hf d x).consistent hc))

theorem links_departEntry (as : List Agent) (hc : d.Consistent) (e : EntryIx) : Links d (d.departEntry as e) := by
  unfold Device.departEntry
  split
  · have hw : Links d (as.foldl (fun d a => d.departWait e a) d) := .foldl _ (fun d a => links_departWait d e a) as d
    have hc' := (Steady.foldl _ (fun d a => steady_departWait d e a) as d).consistent hc
    exact (hw.trans (links_foldl (fun d a => (steady_departHold d e a).toCalm) (fun _ a h => links_departHold h e a) as hc')).trans
      (links_evaluate ..)
  · exact .refl d

theorem links_departEntries (as : List Agent) (l : List EntryIx) (hc : d.Consistent) : Links d (d.departEntries as l) :=
  links_foldl (fun d e => (steady_departEntry as d e).toCalm) (fun _ e h => links_departEntry as h e) l hc

theorem channels_setRosters (d : Device) (as : List Agent) (x : Roster) : (d.setRosters as x).channels = d.channels := by
  rw [setRosters_eq]

theorem links_setRosters (d : Device) (as : List Agent) (x : Roster) : Links d (d.setRosters as x) :=
  links_of_slots (channels_setRosters ..) slots_setRosters

theorem links_clearNotices (d : Device) (as : List Agent) : Links d (d.clearNotices as) :=
  links_of_slots (by rw [clearNotices_eq]) slots_clearNotices

theorem links_closeWindow (d : Device) : Links d d.closeWindow := by
  rw [closeWindow_eq]; exact links_of_slots rfl rfl

theorem links_depart (hc : d.Consistent) (as : List Agent) (x : Roster) : Links d (d.depart as x) := by
  rw [depart_eq]
  exact ((((links_setRosters ..).trans (links_departEntries as allEntries (consistent_setRosters hc))).trans
    (links_clearNotices ..)).trans (links_setRosters ..)).trans (links_closeWindow _)

end

end Sys2Proof.Machine
end

section
/-!
PROOFS. The commands on leases and records: what each leaves of the roster, the window and the channels (R121, R133, R177).
-/
namespace Sys2Proof.Machine

/-- The reclaim window runs while an agent is REJOINING (R177). -/
def Device.Windowed (d : Device) : Prop := d.reclaimLeft.isSome = true ↔ ∃ a, (d.agent a).state = .rejoining

/-- From `d` to `d'` no warm reset begins or ends, the reclaim window goes on agreeing with the roster, and the channels are
left or land. -/
structure Tidy (d d' : Device) : Prop where
  cmdReset : d'.cmdReset = d.cmdReset
  recorded : d'.recorded = d.recorded
  window : d.Windowed → d'.Windowed
  links : Links d d'

/-- The outcome of command `c` on channel `ch`: a result to be completed, or a REQUEST in flight with the parameters `p` (R121,
R163). -/
inductive Concluded (c : Cmd) (ch : Agent) (p : Params) (d : Device) : Device × Option Results → Prop
  | ends {d' : Device} (r : Results) (h : Tidy d d') : Concluded c ch p d (d', some r)
  | flies {d' : Device} {e : EntryIx} {r : Record} (hc : c = .request) (h : Tidy d d') (hn : d'.Names p.handle e)
      (hr : d'.entry e = some r) (hw : r.Awaits ch) : Concluded c ch p d (d'.setChan ch { d'.chan ch with state := .inFlight }, none)

section
variable {d d' d'' : Device} {e : EntryIx} {r : Record} {a : Agent} {p : Params} {g : GroupIx} {k : Cmd}

theorem windowed_of_same (ha : ∀ a, (d'.agent a).state = (d.agent a).state) (hr : d'.reclaimLeft = d.reclaimLeft)
    (h : d.Windowed) : d'.Windowed := by
  unfold Device.Windowed at h ⊢
  simp only [ha, hr]
  exact h

namespace Tidy

theorem refl (d : Device) : Tidy d d := ⟨rfl, rfl, id, .refl d⟩

theorem trans (h : Tidy d d') (h' : Tidy d' d'') : Tidy d d'' :=
  ⟨h'.cmdReset.trans h.cmdReset, h'.recorded.trans h.recorded, fun hw => h'.window (h.window hw), h.links.trans h'.links⟩

end Tidy

theorem SameBoard.tidy (h : SameBoard d d') (hl : Links d d') : Tidy d d' :=
  ⟨h.cmdReset, h.recorded, windowed_of_same (fun a => by rw [agent_of_agents h.agents]) h.reclaimLeft, hl⟩

theorem Reaches.tidy (h : Reaches e d d') (hl : Links d d') : Tidy d d' := h.board.tidy hl

theorem OnlyEntry.tidy (h : OnlyEntry e d d') (hl : Links d d') : Tidy d d' := h.reaches.tidy hl

theorem concluded_done (c : ResultCode) (h : Tidy d d') : Concluded k a p d (done d' c) := .ends _ h

theorem concluded_refl (r : Results) : Concluded k a p d (d, some r) := .ends r (.refl d)

/-! ### Operations on one entry -/

theorem tidy_evaluate (d : Device) (e : EntryIx) : Tidy d (d.evaluate e) := (onlyEntry_evaluate d e).tidy (links_evaluate d e)

theorem tidy_handOn (d : Device) (e : EntryIx) : Tidy d (d.handOn e) := (onlyEntry_handOn d e).tidy (links_handOn d e)

theorem tidy_checkDrain (d : Device) (e : EntryIx) : Tidy d (d.checkDrain e) :=
  (onlyEntry_checkDrain d e).tidy (links_checkDrain d e)

theorem tidy_post (d : Device) (e : EntryIx) (a : Agent) (k : NoticeKind) : Tidy d (d.post e a k) :=
  (onlyEntry_post d e a k).tidy (links_post ..)

theorem tidy_removeCell (h : ¬ d.Flies a e) : Tidy d (d.removeCell e a) := (onlyEntry_removeCell d e a).tidy (links_removeCell h)

theorem tidy_endGrant_held (hc : d.Consistent) (hr : d.entry e = some r) (hh : r.heldBy a = true) : Tidy d (d.endGrant e a) :=
  (onlyEntry_endGrant d e a).tidy (links_endGrant_held hc hr hh)

theorem tidy_revoke (hc : d.Consistent) (hr : d.entry e = some r) (hh : r.heldBy a = true) : Tidy d (d.revoke e a) :=
  ((tidy_endGrant_held hc hr hh).trans (tidy_post ..)).trans (tidy_handOn ..)

theorem not_flies_of_state (h : (d.chan a).state ≠ .inFlight) : ¬ d.Flies a e := fun hf => h hf.state

theorem OnlyEntry.tidy_plain (h : OnlyEntry e d d') (hr : d.entry e = some r) (hp : r.isSwitching = false) : Tidy d d' :=
  h.tidy (h.links fun s hs => by rw [hr] at hs; cases hs; exact hp)

/-! ### Leases -/

theorem concluded_takeRelease (hc : d.Consistent) : Concluded k a p d (takeRelease a p d) := by
  unfold takeRelease
  split
  · exact concluded_refl _
  · next e r hl =>
    split
    · next hh => exact concluded_done _ ((tidy_endGrant_held hc (lookup_entry hl) hh).trans (tidy_handOn ..))
    · exact concluded_refl _

theorem concluded_takeCancel (hf : (d.chan a).state ≠ .inFlight) : Concluded k a p d (takeCancel a p d) := by
  unfold takeCancel
  split
  · exact concluded_refl _
  · split
    · exact concluded_done _ ((tidy_removeCell (not_flies_of_state hf)).trans (tidy_handOn ..))
    · exact concluded_refl _

theorem tidy_modifyHolder (d : Device) (e : EntryIx) (a : Agent) (f : Holder → Holder) : Tidy d (d.modifyHolder e a f) :=
  (onlyEntry_modifyHolder d e a f).tidy (links_modifyEntry fun _ _ _ _ => awaits_of_subset rfl fun _ h => h)

theorem concluded_takeRenew : Concluded k a p d (takeRenew a p d) := by
  unfold takeRenew
  split
  · exact concluded_refl _
  · split
    · exact concluded_refl _
    · split
      · exact .ends _ (tidy_modifyHolder ..)
      · exact concluded_refl _

theorem concluded_takeDowngrade (hc : d.Consistent) : Concluded k a p d (takeDowngrade a p d) := by
  unfold takeDowngrade
  split
  · exact concluded_refl _
  · next e r hl =>
    split
    · exact concluded_refl _
    · next h hh =>
      split
      · exact concluded_refl _
      · split
        · exact concluded_refl _
        · have hpl := plain_of_heldBy hc (lookup_entry hl) (heldBy_of_holder hh)
          refine concluded_done _ (.trans (OnlyEntry.tidy_plain ?_ (lookup_entry hl) hpl) (tidy_handOn ..))
          exact (onlyEntry_modifyHolder d e a _).trans (onlyEntry_modifyEntry _ e _ fun _ => rfl)

theorem concluded_takeCheck : Concluded k a p d (takeCheck a p d) := by
  unfold takeCheck
  split
  · exact concluded_refl _
  · split
    · exact concluded_refl _
    · split <;> exact concluded_refl _

theorem concluded_takeQuery : Concluded k a p d (takeQuery a p d) := by
  unfold takeQuery
  split <;> exact concluded_refl _

/-! ### REQUEST -/

theorem generation_startSwitch (d : Device) (e x : EntryIx) (g : GroupIx) (t : SwitchTarget) :
    ((d.startSwitch e g t).slot x).generation = (d.slot x).generation := by
  unfold Device.startSwitch
  split
  · rfl
  · exact Device.generation_modifyEntry ..

theorem generation_evaluate (d : Device) (e x : EntryIx) : ((d.evaluate e).slot x).generation = (d.slot x).generation := by
  obtain ⟨f, hf, -⟩ := entry_evaluate d e
  rw [← Device.generation_modifyEntry d e x f]
  unfold Device.slot
  rw [hf]

theorem awaits_evaluate (hr : d.entry e = some r) (hw : r.Awaits a) : ∃ r', (d.evaluate e).entry e = some r' ∧ r'.Awaits a := by
  obtain ⟨f, hf, hk⟩ := entry_evaluate d e
  refine ⟨f r, ?_, ?_⟩
  · rw [entry_of_slots hf, Device.entry_modifyEntry, if_pos rfl, hr]; rfl
  · obtain ⟨k, hk, -⟩ := hk r
    rw [hk]
    exact awaits_of_subset rfl (fun _ h => h) hw

/-- The entry of a switch just started for the agent of a cell with no deadline (R117, R121). -/
theorem awaits_startingSwitch {c : WaitCell} (hc : c ∈ r.queue) (hd : c.deadline = none) :
    (r.startingSwitch (.agent c.agent)).Awaits c.agent :=
  ⟨rfl, { c with target := true }, List.mem_map.mpr ⟨c, hc, if_pos rfl⟩, rfl, rfl, hd⟩

theorem entry_startSwitch {t : SwitchTarget} (hr : d.entry e = some r) {b : Binding} (hb : (d.group g).binding = some b) :
    (d.startSwitch e g t).entry e = some (r.startingSwitch t) := by
  rw [startSwitch_eq_starting hb hr]
  exact (entry_putRecord ..).trans (if_pos rfl)

theorem concluded_takeInFlight (hc : d.Consistent) (hn : d.Names p.handle e) (hr : d.entry e = some r) {c : Claim}
    (hi : r.occupancy = .idle) (hg : r.group = some g) : Concluded .request c.agent p d (takeInFlight d e g c) := by
  unfold takeInFlight
  split
  · exact concluded_refl _
  · obtain ⟨b, hb, -⟩ := hc.binding hr hg
    have hr' := entry_enqueue hr c.targetCell
    have hsw : ({ r with queue := insertCell c.targetCell r.queue } : Record).isSwitching = false := by
      simp [Record.isSwitching, hi]
    have hs := entry_startSwitch (t := .agent c.agent) hr' (g := g) (b := b) hb
    have hw := awaits_startingSwitch (r := { r with queue := insertCell c.targetCell r.queue }) (c := c.targetCell)
      (mem_insertCell.mpr (.inl rfl)) rfl
    obtain ⟨s, hs', hws⟩ := awaits_evaluate hs hw
    refine .flies rfl ((Tidy.trans ((onlyEntry_enqueue ..).tidy (links_enqueue ..))
      ((onlyEntry_startSwitch _ e hr' hg _).tidy_plain hr' hsw)).trans (tidy_evaluate ..)) ⟨hn.index, hn.nonzero, ?_⟩ hs' hws
    rw [generation_evaluate, generation_startSwitch, Device.enqueue, Device.generation_modifyEntry]
    exact hn.generation

theorem concluded_takeWait {c : Claim} : Concluded k a p d (takeWait d e c) := by
  unfold takeWait
  split
  · exact concluded_refl _
  · split
    · exact concluded_refl _
    · exact .ends _ (((onlyEntry_enqueue ..).tidy (links_enqueue ..)).trans (tidy_handOn ..))

theorem concluded_decideClaim (hc : d.Consistent) (hn : d.Names p.handle e) (hr : d.entry e = some r) {c : Claim} :
    Concluded .request c.agent p d (decideClaim d e r c) := by
  have plain : r.occupancy = .idle ∨ r.occupancy = .heldS → r.isSwitching = false := by
    rintro (h | h) <;> simp [Record.isSwitching, h]
  unfold decideClaim
  rcases claimOutcome_cases d r c with ⟨h, -, hi, -, -⟩ | ⟨g, h, -, hi, -, hg⟩ | ⟨h, -, hi, -⟩ | ⟨h, -, ha⟩ | h <;> rw [h]
  · exact .ends _ ((onlyEntry_newGrant ..).tidy_plain hr (plain (.inl hi)))
  · exact concluded_takeInFlight hc hn hr hi hg
  · exact .ends _ ((onlyEntry_newGrant ..).tidy_plain hr (plain hi))
  · refine .ends _ (((onlyEntry_convertHolder ..).tidy_plain hr ?_).trans (tidy_evaluate ..))
    exact plain_of_heldBy hc hr (heldBy_iff.mpr (ha ▸ List.mem_singleton_self c.agent))
  · exact concluded_takeWait

theorem concluded_takeRequest (hc : d.Consistent) : Concluded .request a p d (takeRequest a p d) := by
  unfold takeRequest
  split
  · exact concluded_refl _
  · next e r hl =>
    obtain ⟨hn, hr⟩ := lookup_ok_iff.mp hl
    split
    · next m prio t _ _ _ =>
      split
      · exact concluded_refl _
      · exact concluded_decideClaim (c := { agent := a, mode := m, priority := min prio (d.agent a).cap, term := t
                                            waitLimit := p.waitlim.toNat }) hc hn hr
    · exact concluded_refl _

/-! ### Revocation and retirement -/

theorem concluded_takeForceRelease (hc : d.Consistent) : Concluded k a p d (takeForceRelease a p d) := by
  unfold takeForceRelease
  split
  · exact concluded_refl _
  · next e r hl =>
    split
    · exact concluded_refl _
    · split
      · exact concluded_refl _
      · split
        · exact concluded_refl _
        · next hh => exact .ends _ (tidy_revoke hc (lookup_entry hl) (heldBy_of_holder hh))

theorem links_tellWaiters (l : List WaitCell) (d : Device) (e : EntryIx) (code : ResultCode) (k : NoticeKind) :
    Links d (l.foldl (fun d c => d.tellWaiter e c code k) d) := .foldl _ (fun d c => links_tellWaiter d e c code k) l d

/-- When all waiters have been told, none of them has a flight on the entry. -/
theorem not_inFlightOn_tellWaiters (l : List WaitCell) (d : Device) (e : EntryIx) (code : ResultCode) (k : NoticeKind) :
    ∀ c ∈ l, (l.foldl (fun d c => d.tellWaiter e c code k) d).inFlightOn c.agent e = false := by
  induction l generalizing d with
  | nil => exact fun c hc => by cases hc
  | cons x l ih =>
    intro c hc
    rcases List.mem_cons.mp hc with rfl | hc
    · have hx := not_inFlightOn_tellWaiter d e c code k
      by_contra hf
      have := (links_tellWaiters l _ e code k).inFlightOn (by simpa using hf)
      rw [hx] at this
      cases this
    · exact ih _ c hc

theorem links_retireQueue (hr : d.entry e = some r) (q : Agent) (m : RetireMode) : Links d (d.retireQueue e r q m) := by
  unfold Device.retireQueue
  have hlife : Links d (d.modifyEntry e fun r => { r with lifecycle := .retiring q m }) :=
    links_modifyEntry fun _ _ _ _ => awaits_of_subset rfl fun _ h => h
  have htold := links_tellWaiters r.queue (d.modifyEntry e fun r => { r with lifecycle := .retiring q m }) e .retiring .retiring
  refine (hlife.trans htold).trans (links_of_none (e := e) rfl (fun x hx => ?_) fun b hf => ?_)
  · unfold Device.modifyEntry; rw [Device.slot_setSlot, if_neg (Ne.symm hx)]
  · obtain ⟨s, hs, -, c, hcq, rfl, -⟩ := hf.target
    rw [entry_of_slots (slots_tellWaiters ..), Device.entry_modifyEntry, if_pos rfl, hr] at hs
    cases hs
    have := hf.inFlightOn
    rw [not_inFlightOn_tellWaiters _ _ _ _ _ c hcq] at this
    cases this

theorem links_revokeAll (l : List Holder) {d : Device} (hp : ∀ r, d.entry e = some r → r.isSwitching = false) :
    Links d (l.foldl (fun d h => (d.endGrant e h.agent).post e h.agent .revoked) d) := by
  induction l generalizing d with
  | nil => exact .refl d
  | cons h l ih =>
    refine (((onlyEntry_endGrant d e h.agent).links hp).trans (links_post ..)).trans (ih fun s hs => ?_)
    rw [entry_post, Device.endGrant, Device.entry_modifyEntry, if_pos rfl] at hs
    obtain ⟨r₀, -, rfl⟩ := Option.map_eq_some_iff.mp hs
    exact (plain_iff.mp (plain_occupancyOf _)).1

theorem links_retireHolders (m : RetireMode) (hc : d.Consistent) (hh : ∀ s, d.entry e = some s → s.holders = r.holders) :
    Links d (d.retireHolders e r m) := by
  unfold Device.retireHolders
  have hposts : Links d (r.holders.foldl (fun d h => d.post e h.agent .retiring) d) :=
    Links.foldl (fun d (h : Holder) => d.post e h.agent .retiring) (fun d h => links_post d e h.agent .retiring) _ _
  cases m with
  | drain => exact hposts
  | immediate =>
    by_cases hn : r.holders = []
    · simp only [hn, List.foldl_nil]; exact .refl d
    · refine hposts.trans (links_revokeAll _ fun s hs => ?_)
      rw [entry_posts] at hs
      exact (plain_iff.mp (hc.plain_of_held hs (by rw [hh s hs]; exact hn))).1

theorem concluded_takeRetire (hc : d.Consistent) : Concluded k a p d (takeRetire a p d) := by
  unfold takeRetire
  split
  · exact concluded_refl _
  · next e r hl =>
    split
    · exact concluded_refl _
    · next m _ =>
      split
      · exact concluded_refl _
      · next he =>
        split
        · exact concluded_refl _
        · split
          · exact concluded_refl _
          · have hr := lookup_entry hl
            refine concluded_done _ (((Tidy.trans ((reaches_retireQueue d e r a m).tidy (links_retireQueue hr a m))
              ((onlyEntry_retireHolders _ e r m).tidy (links_retireHolders m ?_ fun s hs => ?_))).trans
              (tidy_evaluate ..)).trans (tidy_checkDrain ..))
            · exact (steady_retireQueue he d r a m).consistent hc
            · rw [entry_retireQueue hr] at hs
              cases hs
              rfl

/-! ### Records -/

theorem slot_modifyEntry_ne {x : EntryIx} (hx : x ≠ e) (f : Record → Record) : (d.modifyEntry e f).slot x = d.slot x := by
  unfold Device.modifyEntry; rw [Device.slot_setSlot, if_neg (Ne.symm hx)]

theorem slot_createRecord_ne {x : EntryIx} (hx : x ≠ e) : (d.createRecord e r).slot x = d.slot x := by
  have : (d.createRecord e r).slot x = (d.setSlot e { d.slot e with record := some r }).slot x := rfl
  rw [this, Device.slot_setSlot, if_neg (Ne.symm hx)]

theorem slot_returnHome_ne {x : EntryIx} (hx : x ≠ e) : (d.returnHome e g).slot x = d.slot x := by
  unfold Device.returnHome
  split
  · unfold Device.startSwitch
    split
    · rfl
    · exact slot_modifyEntry_ne hx _
  · rfl

theorem slot_unbindGroup (d : Device) (g : Option GroupIx) (x : EntryIx) : (d.unbindGroup g).slot x = d.slot x := by
  cases g <;> rfl

theorem slot_amendGroup_ne {og : Option GroupIx} {q : Option SteerParams} {x : EntryIx} (hx : x ≠ e) :
    (d.amendGroup e og q).slot x = d.slot x := by
  cases q with
  | none => exact slot_unbindGroup ..
  | some s =>
    unfold Device.amendGroup
    dsimp only
    split
    · exact slot_returnHome_ne hx
    · exact (slot_returnHome_ne hx).trans (slot_unbindGroup ..)

theorem sameBoard_returnHome (d : Device) (e : EntryIx) (g : GroupIx) : SameBoard d (d.returnHome e g) := by
  unfold Device.returnHome
  split
  · unfold Device.startSwitch
    split
    · exact .refl d
    · exact ⟨rfl, rfl, rfl, rfl, rfl, rfl, rfl⟩
  · exact .refl d

theorem sameBoard_setGroup (d : Device) (g : GroupIx) (x : GroupRec) : SameBoard d (d.setGroup g x) :=
  ⟨rfl, rfl, rfl, rfl, rfl, rfl, rfl⟩

theorem sameBoard_unbindGroup (d : Device) (g : Option GroupIx) : SameBoard d (d.unbindGroup g) := by
  cases g with
  | none => exact .refl d
  | some g => exact sameBoard_setGroup ..

theorem sameBoard_amendGroup (d : Device) (e : EntryIx) (og : Option GroupIx) (q : Option SteerParams) :
    SameBoard d (d.amendGroup e og q) := by
  cases q with
  | none => exact sameBoard_unbindGroup ..
  | some s =>
    unfold Device.amendGroup
    dsimp only
    split
    · exact (sameBoard_setGroup ..).trans (sameBoard_returnHome ..)
    · exact ((sameBoard_unbindGroup ..).trans (sameBoard_setGroup ..)).trans (sameBoard_returnHome ..)

theorem sameBoard_createRecord (d : Device) (e : EntryIx) (r : Record) : SameBoard d (d.createRecord e r) :=
  ⟨rfl, rfl, rfl, rfl, rfl, rfl, rfl⟩

theorem sameBoard_bindNamed (d : Device) (e : EntryIx) (q : Option SteerParams) : SameBoard d (d.bindNamed e q) := by
  cases q with
  | none => exact .refl d
  | some s => exact (sameBoard_setGroup ..).trans (sameBoard_returnHome ..)

theorem slot_bindNamed_ne {q : Option SteerParams} {x : EntryIx} (hx : x ≠ e) : (d.bindNamed e q).slot x = d.slot x := by
  cases q with
  | none => rfl
  | some s => exact slot_returnHome_ne hx

theorem concluded_takeOpen : Concluded k a p d (takeOpen a p d) := by
  unfold takeOpen
  dsimp only
  split
  · exact concluded_refl _
  · split
    · split <;> exact concluded_refl _
    · split
      · exact concluded_refl _
      · split
        · exact concluded_refl _
        · split
          · next e _ hf _ =>
            refine .ends _ ((sameBoard_createRecord ..).tidy (links_of_plain (e := e) rfl (fun x hx => slot_createRecord_ne hx)
              fun s hs => ?_))
            rw [entry_of_freeSlot hf] at hs
            cases hs
          · exact concluded_refl _

theorem concluded_takeDefine : Concluded k a p d (takeDefine a p d) := by
  unfold takeDefine
  split
  · exact concluded_refl _
  · next q _ =>
    split
    · exact concluded_refl _
    · split
      · exact concluded_refl _
      · split
        · exact concluded_refl _
        · next e hf =>
          have hfree : ∀ s, d.entry e = some s → s.isSwitching = false := fun s hs => by
            rw [entry_of_freeSlot hf] at hs; cases hs
          have hch := channels_bindNamed (d.createRecord e (q.record p.key)) e q.steer
          exact .ends _ (((sameBoard_createRecord ..).trans (sameBoard_bindNamed ..)).tidy
            (links_of_plain (e := e) hch (fun x hx => (slot_bindNamed_ne hx).trans (slot_createRecord_ne hx)) hfree))

theorem concluded_amendControl : Concluded k a p d (amendControl p d) := by
  unfold amendControl
  split
  · exact concluded_refl _
  · exact concluded_refl _
  · next y _ _ =>
    refine concluded_done _ (Tidy.trans (OnlyEntry.tidy (onlyEntry_modifyEntry d 0
      (fun r => { r with policy := y, holders := r.holders.map (Holder.afterAmend r.policy y) }) fun _ => rfl)
      (links_modifyEntry fun _ _ _ _ => awaits_of_subset rfl fun _ h => h)) (tidy_evaluate ..))

theorem concluded_takeAmend : Concluded k a p d (takeAmend a p d) := by
  unfold takeAmend
  split
  · exact concluded_refl _
  · next e r hl =>
    split
    · exact concluded_amendControl
    · split
      · exact concluded_refl _
      · next q _ =>
        split
        · exact concluded_refl _
        · split
          · exact concluded_refl _
          · split
            · exact concluded_refl _
            · next hbusy =>
              split
              · exact concluded_refl _
              · have hidle := not_not.mp (not_or.mp hbusy).1
                refine concluded_done _ (SameBoard.tidy ?_ (links_of_plain (e := e) ?_ (fun x hx => ?_) fun s hs => ?_))
                · exact SameBoard.trans (d' := d.modifyEntry e q.amend) ⟨rfl, rfl, rfl, rfl, rfl, rfl, rfl⟩ (sameBoard_amendGroup ..)
                · exact channels_amendGroup ..
                · exact (slot_amendGroup_ne hx).trans (slot_modifyEntry_ne hx _)
                · rw [lookup_entry hl] at hs
                  cases hs
                  simp [Record.isSwitching, hidle]

end

end Sys2Proof.Machine
end

section
/-!
PROOFS. Roster commands, steering events and timers: what each leaves of the roster, the window and the channels (R120, R123,
R135 to R144, R177 to R179).
-/
namespace Sys2Proof.Machine

section
variable {d d' : Device} {e : EntryIx} {r : Record} {a : Agent} {p : Params} {g : GroupIx} {k : Cmd}

/-! ### Roster and window -/

theorem rejoining_of_closeWindow (h : (∃ a, (d.agent a).state = .rejoining) → d.reclaimLeft.isSome = true) :
    d.closeWindow.Windowed := by
  have hany : (allAgents.any fun a => (d.agent a).state = .rejoining) = true ↔ ∃ a, (d.agent a).state = .rejoining := by
    simp [allAgents]
  unfold Device.closeWindow Device.Windowed
  split
  · next hr => exact iff_of_true (h (hany.mp hr)) (hany.mp hr)
  · next hr => exact iff_of_false (by simp) fun hx => hr (hany.mpr hx)

/-- The window closes after some agents have left REJOINING, and none has come to it. -/
theorem windowed_closeWindow (hw : d.Windowed) (hs : ∀ a, (d'.agent a).state = .rejoining → (d.agent a).state = .rejoining)
    (hr : d'.reclaimLeft = d.reclaimLeft) : d'.closeWindow.Windowed :=
  rejoining_of_closeWindow fun ⟨a, ha⟩ => by rw [hr]; exact hw.mpr ⟨a, hs a ha⟩

theorem reclaimLeft_setRosters (d : Device) (as : List Agent) (x : Roster) : (d.setRosters as x).reclaimLeft = d.reclaimLeft := by
  rw [setRosters_eq]

theorem tidy_depart (hc : d.Consistent) (as : List Agent) {x : Roster} (hx : x ≠ .rejoining) : Tidy d (d.depart as x) := by
  refine ⟨cmdReset_depart .., recorded_depart .., fun hw => ?_, links_depart hc as x⟩
  rw [depart_eq_departed]
  refine windowed_closeWindow hw (fun b hb => ?_) ?_
  · rw [agent_setRosters, agent_departed, agent_setRosters] at hb
    split at hb
    · exact absurd hb hx
    · exact hb
  · rw [reclaimLeft_setRosters, (board_departed d as).reclaimLeft, reclaimLeft_setRosters]

theorem tidy_setRoster {x : Roster} (ha : (d.agent a).state ≠ .rejoining) (hx : x ≠ .rejoining) : Tidy d (d.setRoster a x) := by
  have hs : ∀ b, ((d.setRoster a x).agent b).state = .rejoining ↔ (d.agent b).state = .rejoining := fun b => by
    rw [agent_setRoster]
    split
    · next h => subst h; exact iff_of_false hx ha
    · exact .rfl
  refine ⟨rfl, rfl, fun hw => ?_, links_of_slots rfl rfl⟩
  unfold Device.Windowed at hw ⊢
  simp only [hs]
  exact hw

theorem tidy_bootHandOn (d : Device) (q : Prop) [Decidable q] (e : EntryIx) : Tidy d (if q then d.handOn e else d) := by
  split
  · exact tidy_handOn ..
  · exact .refl d

theorem sameBoard_bootHandOn (d : Device) (q : Prop) [Decidable q] (e : EntryIx) : SameBoard d (if q then d.handOn e else d) := by
  split
  · exact (onlyEntry_handOn d e).reaches.board
  · exact .refl d

theorem concluded_takeDetach (hc : d.Consistent) : Concluded k a p d (takeDetach a p d) := by
  unfold takeDetach
  exact concluded_done _ (tidy_depart hc [a] (by decide))

theorem concluded_takeFence (hc : d.Consistent) : Concluded k a p d (takeFence a p d) := by
  unfold takeFence
  split
  · exact concluded_refl _
  · next x _ =>
    split
    · exact concluded_refl _
    · dsimp only
      split
      · exact concluded_refl _
      · next hs => exact .ends _ (tidy_setRoster (by rw [hs]; decide) (by decide))
      · exact .ends _ (tidy_depart hc [x] (by decide))
      · exact .ends _ (tidy_depart hc [x] (by decide))

theorem concluded_takeUnfence : Concluded k a p d (takeUnfence a p d) := by
  unfold takeUnfence
  split
  · exact concluded_refl _
  · split
    · next hs => exact concluded_done _ (tidy_setRoster (by rw [hs]; decide) (by decide))
    · exact concluded_refl _

theorem concluded_takeSetAgent : Concluded k a p d (takeSetAgent a p d) := by
  unfold takeSetAgent
  split
  · exact concluded_refl _
  · next x _ _ _ _ _ =>
    split
    · exact concluded_refl _
    · refine concluded_done _ ⟨rfl, rfl, windowed_of_same (fun b => ?_) rfl, links_of_slots rfl rfl⟩
      rw [Device.agent_setAgent]
      split
      · next hb => subst hb; rfl
      · rfl

theorem evaluateHolds_keeps {R : Device → Device → Prop} (hr : ∀ d, R d d) (ht : ∀ {d d' d''}, R d d' → R d' d'' → R d d'')
    (he : ∀ d e, R d (d.evaluate e)) (d : Device) (a : Agent) : R d (d.evaluateHolds a) := by
  unfold Device.evaluateHolds
  generalize allEntries = l
  induction l generalizing d with
  | nil => exact hr d
  | cons e l ih =>
    refine ht ?_ (ih _)
    dsimp only
    split
    · split
      · exact he d e
      · exact hr d
    · exact hr d

theorem links_evaluateHolds (d : Device) (a : Agent) : Links d (d.evaluateHolds a) :=
  evaluateHolds_keeps Links.refl Links.trans links_evaluate d a

theorem sameBoard_evaluateHolds (d : Device) (a : Agent) : SameBoard d (d.evaluateHolds a) :=
  evaluateHolds_keeps SameBoard.refl SameBoard.trans (fun d e => (onlyEntry_evaluate d e).reaches.board) d a

/-- The window closes after an agent has become ONLINE and its entries have been handed on. -/
theorem tidy_back (hb : SameBoard (d.setRoster a .online) d') (hl : Links d d') : Tidy d d'.closeWindow := by
  refine ⟨?_, ?_, fun hw => windowed_closeWindow hw (fun b hb' => ?_) hb.reclaimLeft, hl.trans (links_closeWindow _)⟩
  · rw [closeWindow_eq]; exact hb.cmdReset
  · rw [closeWindow_eq]; exact hb.recorded
  · rw [agent_of_agents hb.agents, agent_setRoster] at hb'
    split at hb'
    · cases hb'
    · exact hb'

theorem links_setRoster (d : Device) (a : Agent) (x : Roster) : Links d (d.setRoster a x) := links_of_slots rfl rfl

theorem concluded_takeRejoin : Concluded k a p d (takeRejoin a p d) := by
  unfold takeRejoin
  split
  · have hb := sameBoard_evaluateHolds (d.setRoster a .online) a
    have hl := (links_setRoster d a .online).trans (links_evaluateHolds (d.setRoster a .online) a)
    generalize (d.setRoster a .online).evaluateHolds a = x at hb hl
    exact .ends _ (tidy_back (a := a) (hb.trans (sameBoard_bootHandOn x (a = x.boot) 0))
      (hl.trans (tidy_bootHandOn x (a = x.boot) 0).links))
  · exact concluded_refl _

theorem sameBoard_advanceTicket (d : Device) : SameBoard d d.advanceTicket := ⟨rfl, rfl, rfl, rfl, rfl, rfl, rfl⟩

theorem links_advanceTicket (d : Device) : Links d d.advanceTicket := links_of_slots rfl rfl

theorem links_clearAgentNotices (d : Device) (a : Agent) : Links d (d.clearAgentNotices a) := links_of_slots rfl rfl

theorem links_attachGone (hc : d.Consistent) (a : Agent) : Links d (d.attachGone a) := by
  have hc₀ : (d.setRoster a .offline).Consistent := consistent_setRoster hc
  have hc₁ : (d.attachLeft a).Consistent := (steady_departEntry [a] _ 0).consistent hc₀
  have h : Links d (d.attachLeft a) := (links_setRoster d a .offline).trans (links_departEntry [a] hc₀ 0)
  unfold Device.attachGone
  split
  · exact (h.trans (links_advanceTicket _)).trans (links_departEntries [a] _ ((steady_advanceTicket _).consistent hc₁))
  · exact h.trans (links_departEntries [a] _ hc₁)

theorem sameBoard_attachGone (d : Device) (a : Agent) : SameBoard (d.setRoster a .offline) (d.attachGone a) := by
  have h : SameBoard (d.setRoster a .offline) (d.attachLeft a) := (reaches_departEntry [a] (d.setRoster a .offline) 0).board
  unfold Device.attachGone
  split
  · exact (h.trans (sameBoard_advanceTicket _)).trans (sameBoard_departEntries ..)
  · exact h.trans (sameBoard_departEntries ..)

theorem tidy_attachBack (hc : d.Consistent) (a : Agent) : Tidy d (d.attachBack a) := by
  have hb := sameBoard_attachGone d a
  have hg := links_attachGone hc a
  unfold Device.attachBack
  generalize d.attachGone a = x at hb hg
  have hl : Links d ((x.clearAgentNotices a).setRoster a .online) := (hg.trans (links_clearAgentNotices x a)).trans (links_setRoster ..)
  refine ⟨?_, ?_, fun hw => windowed_closeWindow hw (fun b hb' => ?_) hb.reclaimLeft, hl.trans (links_closeWindow _)⟩
  · rw [closeWindow_eq]; exact hb.cmdReset
  · rw [closeWindow_eq]; exact hb.recorded
  · rw [agent_setRoster, agent_of_agents (agents_clearAgentNotices _ a), agent_of_agents hb.agents, agent_setRoster] at hb'
    split at hb'
    · cases hb'
    · exact hb'

theorem tidy_attachRejoining (hc : d.Consistent) (a : Agent) : Tidy d (d.attachRejoining a) := by
  have hb := tidy_attachBack hc a
  rw [attachRejoining_eq]
  split
  · next hl =>
    obtain ⟨r, hr, hd, -⟩ := leaseFree_iff.mp (Bool.and_eq_true_iff.mp (Bool.and_eq_true_iff.mp hl).1).2
    have hr : (d.attachBack a).entry 0 = some r := by
      rw [← hr]; unfold Device.entry; rw [slot_zero_attachBack]
    exact ((hb.trans ((onlyEntry_addHolder ..).tidy_plain hr (not_switching_of_decidable hd))).trans (tidy_post ..)).trans
      (tidy_evaluate ..)
  · exact hb.trans (tidy_bootHandOn ..)

theorem concluded_takeAttach (hc : d.Consistent) : Concluded k a p d (takeAttach a p d) := by
  unfold takeAttach
  split
  · exact concluded_refl _
  · exact concluded_refl _
  · next hs => exact .ends _ ((tidy_setRoster (by rw [hs]; decide) (by decide)).trans (tidy_bootHandOn ..))
  · exact .ends _ (tidy_attachRejoining hc a)

/-! ### Steering -/

theorem tidy_setGroup (d : Device) (g : GroupIx) (x : GroupRec) : Tidy d (d.setGroup g x) :=
  (sameBoard_setGroup d g x).tidy (links_of_slots rfl rfl)

theorem sameBoard_leaves (d : Device) (e : EntryIx) (s : Record) (g : GroupIx) (x : GroupRec) :
    SameBoard d ((d.putRecord e s).setGroup g x) := ⟨rfl, rfl, rfl, rfl, rfl, rfl, rfl⟩

theorem channels_leaves (d : Device) (e : EntryIx) (s : Record) (g : GroupIx) (x : GroupRec) :
    ((d.putRecord e s).setGroup g x).channels = d.channels := rfl

theorem slot_leaves_ne {y : EntryIx} (hy : y ≠ e) (d : Device) (s : Record) (g : GroupIx) (x : GroupRec) :
    ((d.putRecord e s).setGroup g x).slot y = d.slot y := tget_tset_ne _ _ hy

theorem concluded_takeClearFault (hc : d.Consistent) : Concluded k a p d (takeClearFault a p d) := by
  unfold takeClearFault
  split
  · exact concluded_refl _
  · next g _ =>
    split
    · next hf =>
      obtain ⟨b, r, hb, hr, hg⟩ := hc.steered (g := g) (by rw [hf]; decide)
      have hocc := ((hc.at hr).steered g hg).faulted.mpr hf
      have hp : r.isSwitching = false := by simp [Record.isSwitching, hocc]
      refine concluded_done _ ?_
      unfold Device.clearGroupFault
      dsimp only
      split
      · exact tidy_setGroup ..
      · next b' hb' =>
        cases hb.symm.trans hb'
        rw [setGroup_modifyEntry hr]
        refine ((sameBoard_leaves ..).tidy (links_of_plain (e := b.entry) rfl (fun x hx => slot_leaves_ne hx ..) fun s hs => ?_)).trans
          (tidy_handOn ..)
        rw [hr] at hs
        cases hs
        exact hp
    · exact concluded_refl _

theorem concluded_takeTakeNotice : Concluded k a p d (takeTakeNotice a p d) := by
  unfold takeTakeNotice
  split
  · exact concluded_refl _
  · exact .ends _ (SameBoard.tidy ⟨rfl, rfl, rfl, rfl, rfl, rfl, rfl⟩ (links_of_slots rfl rfl))

theorem concluded_takeConfigure : Concluded k a p d (takeConfigure a p d) := by
  unfold takeConfigure
  split
  · exact concluded_refl _
  · exact .ends _ ⟨rfl, rfl, id, links_of_slots rfl rfl⟩

/-- The flight of agent `a` on entry `e`, if there is one, completed with `x`. -/
def Device.landed (d : Device) (a : Agent) (e : EntryIx) (x : Results) : Device :=
  if d.inFlightOn a e then d.finish a .request x else d

theorem links_landed (d : Device) (a : Agent) (e : EntryIx) (x : Results) : Links d (d.landed a e x) := by
  unfold Device.landed
  split
  · next h => exact links_finish (inFlight_of_inFlightOn h) ..
  · exact .refl d

theorem slots_landed (d : Device) (a : Agent) (e : EntryIx) (x : Results) : (d.landed a e x).slots = d.slots := by
  unfold Device.landed; split <;> rfl

/-- The answer to a flight depends on the channels alone. -/
theorem channels_landed_congr (h : d'.channels = d.channels) (a : Agent) (e : EntryIx) (x : Results) :
    (d'.landed a e x).channels = (d.landed a e x).channels := by
  have hf : d'.inFlightOn a e = d.inFlightOn a e := by
    unfold Device.inFlightOn
    rw [chan_of_channels h]
  unfold Device.landed
  rw [hf]
  split
  · rw [Device.finish_channels, Device.finish_channels, chan_of_channels h, h]
  · exact h

theorem not_inFlightOn_landed (d : Device) (a : Agent) (e : EntryIx) (x : Results) : (d.landed a e x).inFlightOn a e = false := by
  unfold Device.landed
  split
  · exact not_inFlightOn_finish ..
  · next h => simpa using h

/-- No flight is left on the entry of the switch when its target agent has been answered. -/
theorem not_flies_landed (hr : d.entry e = some r) (ho : r.occupancy = .switching (.agent a)) (x : Results) (b : Agent) :
    ¬ (d.landed a e x).Flies b e := by
  intro hf
  obtain ⟨s, hs, hw, -⟩ := hf.target
  rw [entry_of_slots (slots_landed ..), hr] at hs
  cases hs
  cases ho.symm.trans hw
  have := hf.inFlightOn
  rw [not_inFlightOn_landed] at this
  cases this

/-- An operation on an entry that answers the target agent of its switch. -/
theorem links_of_landed (hr : d.entry e = some r) (ho : r.occupancy = .switching (.agent a)) {x : Results}
    (hc : d'.channels = (d.landed a e x).channels) (hs : ∀ y, y ≠ e → d'.slot y = d.slot y) : Links d d' :=
  (links_landed d a e x).trans (links_of_none (e := e) hc
    (fun y hy => (hs y hy).trans (by unfold Device.slot; rw [slots_landed])) fun b => not_flies_landed hr ho x b)

/-- An operation on an entry that nobody waits for in flight. -/
theorem links_of_unawaited (hr : d.entry e = some r) (hn : ∀ b, ¬ r.Awaits b) (hc : d'.channels = d.channels)
    (hs : ∀ y, y ≠ e → d'.slot y = d.slot y) : Links d d' :=
  links_of_none hc hs fun b hf => by
    obtain ⟨s, hs', hw⟩ := hf.target
    cases hr.symm.trans hs'
    exact hn b hw

theorem not_awaits_of_targetCell (h : r.targetCell = none) (b : Agent) : ¬ r.Awaits b := by
  rintro ⟨ho, c, hc, rfl, ht, -⟩
  simp only [Record.targetCell, ho] at h
  have := List.find?_eq_none.mp h c hc
  simp [ht] at this

theorem not_awaits_of_queue (h : r.queue = []) (b : Agent) : ¬ r.Awaits b := by
  rintro ⟨-, c, hc, -⟩
  rw [h] at hc
  cases hc

theorem channels_settleGrant (d : Device) (e : EntryIx) (r : Record) (c : WaitCell) :
    ∃ x, (d.settleGrant e r c).channels = (d.landed c.agent e x).channels := by
  have hd := ((onlyEntry_removeCell d e c.agent).trans
    (onlyEntry_newGrant _ e c.agent .exclusive c.priority (r.grantedTerm c.term))).channels
  refine ⟨grantedResults c.priority d.ticket .exclusive (r.grantedTerm c.term), ?_⟩
  unfold Device.settleGrant Device.landed
  dsimp only
  split
  · rw [Device.finish_channels, Device.finish_channels, chan_of_channels hd, hd]
  · rw [post_channels, hd]

theorem tidy_settle (hq : (d.group g).requesting = true) (hc : d.Consistent) (hs : d.QueuesServed) : Tidy d (d.settle g) := by
  obtain ⟨hst, -⟩ := requesting_iff.mp hq
  obtain ⟨b, r, hb, hr, -⟩ := hc.steered (g := g) (by rw [hst]; decide)
  have heq : (d.setGroup g (d.group g).settled).modifyEntry b.entry (fun r => { r with occupancy := .idle }) =
      (d.putRecord b.entry { r with occupancy := .idle }).setGroup g (d.group g).settled := setGroup_modifyEntry hr _ _
  have hboard := sameBoard_leaves d b.entry { r with occupancy := .idle } g (d.group g).settled
  unfold Device.settle
  dsimp only
  split
  · exact tidy_setGroup ..
  next b' hb' =>
  cases hb.symm.trans hb'
  split
  · exact tidy_setGroup ..
  next r' hr' =>
  cases hr.symm.trans hr'
  rcases settleEntry_cases (d.setGroup g (d.group g).settled) b.entry r with ⟨c, ht, hcase⟩ | ⟨hn, hcase⟩ <;>
    refine hcase ▸ ?_ <;> rw [heq]
  · obtain ⟨x, hx⟩ := channels_settleGrant ((d.putRecord b.entry { r with occupancy := .idle }).setGroup g (d.group g).settled)
      b.entry r c
    have hreach := reaches_settleGrant ((d.putRecord b.entry { r with occupancy := .idle }).setGroup g (d.group g).settled)
      b.entry r c
    refine ((hboard.trans hreach.board).tidy (links_of_landed (x := x) hr (targetCell_eq_some ht).1 ?_ fun y hy => ?_)).trans
      (tidy_evaluate ..)
    · exact hx.trans (channels_landed_congr (channels_leaves ..) ..)
    · exact (hreach.slots y hy).trans (slot_leaves_ne hy ..)
  · have hna : ∀ b, ¬ r.Awaits b := by
      rcases hn with hret | ht
      · exact not_awaits_of_queue (hs.retiring _ r hr (isRetiring_iff.mp hret))
      · exact not_awaits_of_targetCell ht
    exact (hboard.tidy (links_of_unawaited hr hna rfl fun y hy => slot_leaves_ne hy ..)).trans (tidy_handOn ..)

theorem tidy_stdoneRise (hc : d.Consistent) (hs : d.QueuesServed) (g : GroupIx) : Tidy d (d.stdoneRise g) := by
  unfold Device.stdoneRise
  split
  · next hq => exact tidy_settle hq hc hs
  · exact tidy_setGroup ..

theorem tidy_stdoneFall (d : Device) (g : GroupIx) : Tidy d (d.stdoneFall g) := by
  unfold Device.stdoneFall
  dsimp only
  split
  · split
    · exact tidy_setGroup ..
    · split <;> exact tidy_setGroup ..
  · exact tidy_setGroup ..

theorem channels_tellWaiter (d : Device) (e : EntryIx) (c : WaitCell) (code : ResultCode) (k : NoticeKind) :
    (d.tellWaiter e c code k).channels = (d.landed c.agent e { result := code, priority := some c.priority }).channels := by
  unfold Device.tellWaiter Device.landed
  split
  · rfl
  · exact post_channels ..

/-- The device of a failed switch before its entry is handed on (R123). -/
theorem links_dropTarget {x : GroupRec} (hr : d.entry e = some r) :
    Links d (((d.putRecord e { r with occupancy := .faulted }).setGroup g x).dropTarget e r) := by
  have hreach := reaches_dropTarget ((d.putRecord e { r with occupancy := .faulted }).setGroup g x) e r
  have hslots : ∀ y, y ≠ e → (((d.putRecord e { r with occupancy := .faulted }).setGroup g x).dropTarget e r).slot y = d.slot y :=
    fun y hy => (hreach.slots y hy).trans (slot_leaves_ne hy ..)
  cases ht : r.targetCell with
  | none =>
    refine links_of_unawaited hr (not_awaits_of_targetCell ht) ?_ hslots
    simp only [Device.dropTarget, ht]
    rfl
  | some c =>
    refine links_of_landed (x := { result := .steerFault, priority := some c.priority }) hr (targetCell_eq_some ht).1 ?_ hslots
    simp only [Device.dropTarget, ht]
    exact (channels_tellWaiter ..).trans (channels_landed_congr (channels_leaves ..) ..)

theorem tidy_switchFails (hst : (d.group g).state = .switching) (hc : d.Consistent) : Tidy d (d.switchFails g) := by
  obtain ⟨b, r, hb, hr, -⟩ := hc.steered (g := g) (by rw [hst]; decide)
  unfold Device.switchFails
  dsimp only
  split
  · exact tidy_setGroup ..
  next b' hb' =>
  cases hb.symm.trans hb'
  split
  · exact tidy_setGroup ..
  next r' hr' =>
  cases hr.symm.trans hr'
  rw [setGroup_modifyEntry hr]
  exact ((((sameBoard_leaves ..).trans (reaches_dropTarget ..).board).tidy (links_dropTarget hr)).trans (tidy_checkDrain ..)).trans
    (tidy_evaluate ..)

/-! ### Timers -/

theorem awaits_tick (h : r.Awaits a) : r.tick.Awaits a := by
  obtain ⟨ho, c, hc, hca, ht, hd⟩ := h
  exact ⟨ho, c.tick, List.mem_map_of_mem hc, hca, ht, by simp [WaitCell.tick, hd]⟩

theorem tidy_tick (d : Device) : Tidy d d.tick := by
  have h := mapsRecords_tick d
  refine ⟨rfl, rfl, fun hw => ?_, links_of_channels rfl fun b e r _ hr hw => ⟨h.generation e, r.tick, ?_, awaits_tick hw⟩⟩
  · have hl : d.tick.reclaimLeft.isSome = d.reclaimLeft.isSome := Option.isSome_map ..
    unfold Device.Windowed at hw ⊢
    rw [hl]
    exact hw
  · rw [h.entry, hr]; rfl

theorem tidy_termExpires (hc : d.Consistent) (e : EntryIx) (a : Agent) (t : Ticket) : Tidy d (d.termExpires e a t) := by
  unfold Device.termExpires
  split
  · exact .refl d
  · next h hn =>
    split
    · obtain ⟨r, hr, hh⟩ := held_of_named hn
      exact ((tidy_endGrant_held hc hr hh).trans (tidy_post ..)).trans (tidy_handOn ..)
    · exact .refl d

/-- A cell with a deadline is not one of a flight (R121). -/
theorem not_flies_of_deadline (hc : d.Consistent) (hr : d.entry e = some r) {c : WaitCell} (hq : c ∈ r.queue)
    (hd : c.deadline ≠ none) : ¬ d.Flies c.agent e := by
  intro hf
  obtain ⟨s, hs, -, x, hx, hxa, -, hxd⟩ := hf.target
  cases hr.symm.trans hs
  have : x = c := List.inj_on_of_nodup_map (hc.at hr).agrees.queueOnce hx hq hxa
  exact hd (this ▸ hxd)

theorem tidy_waitExpires (hc : d.Consistent) (e : EntryIx) (a : Agent) : Tidy d (d.waitExpires e a) := by
  unfold Device.waitExpires
  split
  · exact .refl d
  · next r hr =>
    split
    · next hany =>
      obtain ⟨c, hq, hp⟩ := List.any_eq_true.mp hany
      simp only [Bool.decide_and, Bool.and_eq_true, decide_eq_true_eq] at hp
      obtain ⟨rfl, hd⟩ := hp
      exact ((tidy_removeCell (not_flies_of_deadline hc hr hq (by simp [hd]))).trans (tidy_post ..)).trans (tidy_handOn ..)
    · exact .refl d

theorem tidy_graceExpires (hc : d.Consistent) (e : EntryIx) (a : Agent) (t : Ticket) : Tidy d (d.graceExpires e a t) := by
  unfold Device.graceExpires
  split
  · exact .refl d
  · next h hn =>
    split
    · obtain ⟨r, hr, hh⟩ := held_of_named hn
      exact tidy_revoke hc hr hh
    · exact .refl d

theorem tidy_taken (x : Expiry) (hc : d.Consistent) : Tidy d (x.taken d) := by
  cases x with
  | term e a t => exact tidy_termExpires hc e a t
  | wait e a => exact tidy_waitExpires hc e a
  | grace e a t => exact tidy_graceExpires hc e a t
  | switch g =>
    unfold Expiry.taken Device.switchExpires
    dsimp only
    split
    · next h => exact tidy_switchFails h.1 hc
    · exact .refl d
  | window => exact tidy_depart hc _ (by decide)

theorem tidy_takeIssued (x : Expiry) (hc : d.Consistent) : Tidy d (d.takeIssued x x.taken) := by
  unfold Device.takeIssued
  split
  · have h : Tidy d { d with issued := d.issued.erase x } := ⟨rfl, rfl, id, links_of_slots rfl rfl⟩
    exact h.trans (tidy_taken x (consistent_of_same (d := d) rfl rfl hc))
  · exact .refl d

/-- Every command but WARM RESET (R160, R163, R173). -/
theorem concluded_takeOf {c : Cmd} (hw : c ≠ .warmReset) (hc : d.Consistent) (hf : (d.chan a).state ≠ .inFlight) :
    Concluded c a p d (takeOf c a p d) := by
  cases c with
  | attach => exact concluded_takeAttach hc
  | detach => exact concluded_takeDetach hc
  | rejoin => exact concluded_takeRejoin
  | openEntry => exact concluded_takeOpen
  | query => exact concluded_takeQuery
  | request => exact concluded_takeRequest hc
  | release => exact concluded_takeRelease hc
  | renew => exact concluded_takeRenew
  | downgrade => exact concluded_takeDowngrade hc
  | cancel => exact concluded_takeCancel hf
  | check => exact concluded_takeCheck
  | takeNotice => exact concluded_takeTakeNotice
  | retire => exact concluded_takeRetire hc
  | define => exact concluded_takeDefine
  | amend => exact concluded_takeAmend
  | forceRelease => exact concluded_takeForceRelease hc
  | fence => exact concluded_takeFence hc
  | unfence => exact concluded_takeUnfence
  | setAgent => exact concluded_takeSetAgent
  | configure => exact concluded_takeConfigure
  | clearFault => exact concluded_takeClearFault hc
  | warmReset => exact absurd rfl hw

end

end Sys2Proof.Machine
end

section
/-!
PROOFS. The channels after each live event (R121, R141, R160 to R165, R171): linked to the reset inputs and to the switches in
flight.
-/
namespace Sys2Proof.Machine

/-- The channel of agent `a` agrees with its reset input, `low` or not, and with the switch it may have in flight (R121, R171). -/
structure Device.LinkSound (d : Device) (low : Bool) (a : Agent) : Prop where
  reset : (d.chan a).state = .reset ↔ low = true
  settled : (d.chan a).state ≠ .executing
  latched : (d.chan a).state ≠ .inFlight → (d.chan a).latched = none
  flies : (d.chan a).state = .inFlight → ∃ e, d.Flies a e

/-- Every channel agrees with the inputs `p`. -/
def Device.Linked (d : Device) (p : Pins) : Prop := ∀ a, d.LinkSound (tget p.agrstLow a) a

/-- From `d` under the inputs `p` to `d'` under `p'` no warm reset begins or ends, and window and channels go on agreeing. -/
structure GoesOn (p p' : Pins) (d d' : Device) : Prop where
  cmdReset : d'.cmdReset = d.cmdReset
  recorded : d'.recorded = d.recorded
  window : d.Windowed → d'.Windowed
  linked : d.Linked p → d'.Linked p'

/-- A warm reset just begun by WARM RESET (R173, R174). -/
def Device.Begun (d' : Device) : Prop := ∃ d : Device, d' = { d.warmBegin with cmdReset := true }

section
variable {d d' d'' : Device} {a b : Agent} {low : Bool} {p p' p'' : Pins}

theorem Links.linkSound (h : Links d d') (hl : d.LinkSound low a) : d'.LinkSound low a := by
  rcases h.chan a with ⟨hc, hf⟩ | ⟨hb, hs, hn⟩
  · refine ⟨by rw [hc]; exact hl.reset, by rw [hc]; exact hl.settled, by rw [hc]; exact hl.latched, fun hst => ?_⟩
    obtain ⟨e, he⟩ := hl.flies (hc ▸ hst)
    exact ⟨e, hf e he⟩
  · have hlow : low ≠ true := fun h0 => by
      have := hl.reset.mpr h0
      rw [hb] at this
      cases this
    exact ⟨iff_of_false (by rw [hs]; decide) hlow, by rw [hs]; decide, fun _ => hn, fun h0 => by rw [hs] at h0; cases h0⟩

theorem chan_setChan_self (d : Device) (a : Agent) (x : Channel) : (d.setChan a x).chan a = x :=
  (Device.chan_setChan ..).trans (if_pos rfl)

theorem chan_setChan_ne (hb : a ≠ b) (d : Device) (x : Channel) : (d.setChan a x).chan b = d.chan b :=
  (Device.chan_setChan ..).trans (if_neg hb)

/-- Another channel written. -/
theorem linkSound_setChan_ne (hb : a ≠ b) {x : Channel} (h : d.LinkSound low b) : (d.setChan a x).LinkSound low b := by
  have hx := chan_setChan_ne hb d x
  refine ⟨by rw [hx]; exact h.reset, by rw [hx]; exact h.settled, by rw [hx]; exact h.latched, fun hst => ?_⟩
  obtain ⟨e, he⟩ := h.flies (hx ▸ hst)
  exact ⟨e, flies_setChan hb x he⟩

/-- A channel at rest. -/
theorem linkSound_rest {x : Channel} (hx : x.state = .ready ∧ low = false ∨ x.state = .reset ∧ low = true) (hl : x.latched = none) :
    (d.setChan a x).LinkSound low a := by
  rcases hx with ⟨hs, rfl⟩ | ⟨hs, rfl⟩ <;> constructor <;> rw [chan_setChan_self, hs]
  · exact iff_of_false (by decide) (by decide)
  · decide
  · exact fun _ => hl
  · exact fun h => by cases h
  · exact iff_of_true rfl rfl
  · decide
  · exact fun _ => hl
  · exact fun h => by cases h

/-- A channel written in what no flight looks at. -/
theorem linkSound_same {x : Channel} (hs : x.state = (d.chan a).state) (hl : x.latched = (d.chan a).latched)
    (hc : x.state = .inFlight → x.complete = (d.chan a).complete) (h : d.LinkSound low a) : (d.setChan a x).LinkSound low a := by
  have hx := chan_setChan_self d a x
  refine ⟨by rw [hx, hs]; exact h.reset, by rw [hx, hs]; exact h.settled, by rw [hx, hs, hl]; exact h.latched, fun hst => ?_⟩
  rw [hx] at hst
  obtain ⟨e, he⟩ := h.flies (hs ▸ hst)
  obtain ⟨q, hq, hi, h0, hg⟩ := he.latched
  exact ⟨e, by rw [hx]; exact hst, by rw [hx, hc hst]; exact he.complete, ⟨q, by rw [hx, hl]; exact hq, hi, h0, hg⟩, he.target⟩

namespace GoesOn

theorem refl (p : Pins) (d : Device) : GoesOn p p d d := ⟨rfl, rfl, id, id⟩

theorem trans (h : GoesOn p p' d d') (h' : GoesOn p' p'' d' d'') : GoesOn p p'' d d'' :=
  ⟨h'.cmdReset.trans h.cmdReset, h'.recorded.trans h.recorded, fun hw => h'.window (h.window hw), fun hl => h'.linked (h.linked hl)⟩

end GoesOn

theorem Tidy.goesOn (h : Tidy d d') (hp : p'.agrstLow = p.agrstLow) : GoesOn p p' d d' :=
  ⟨h.cmdReset, h.recorded, h.window, fun hl a => by rw [hp]; exact h.links.linkSound (hl a)⟩

/-- A channel written, in agreement with the inputs as they are then. -/
theorem goesOn_setChan {x : Channel} (hp : ∀ b, a ≠ b → tget p'.agrstLow b = tget p.agrstLow b)
    (h : d.Linked p → (d.setChan a x).LinkSound (tget p'.agrstLow a) a) : GoesOn p p' d (d.setChan a x) := by
  refine ⟨rfl, rfl, id, fun hl b => ?_⟩
  by_cases hb : a = b
  · subst hb; exact h hl
  · rw [hp b hb]; exact linkSound_setChan_ne hb (hl b)

theorem goesOn_same {x : Channel} (hs : x.state = (d.chan a).state) (hl : x.latched = (d.chan a).latched)
    (hc : x.state = .inFlight → x.complete = (d.chan a).complete) : GoesOn p p d (d.setChan a x) :=
  goesOn_setChan (fun _ _ => rfl) fun h => linkSound_same hs hl hc (h a)

/-- A READY channel left READY with nothing latched. -/
theorem goesOn_ready {x : Channel} (hr : (d.chan a).state = .ready) (hx : x.state = .ready) (hl : x.latched = none) :
    GoesOn p p d (d.setChan a x) :=
  goesOn_setChan (fun _ _ => rfl) fun h => linkSound_rest (.inl ⟨hx, by
    have := (h a).reset
    rw [hr] at this
    simpa using this.symm⟩) hl

/-! ### Transactions -/

theorem tidy_abort (d : Device) (a : Agent) : Tidy d (d.abort a) := by
  unfold Device.abort
  split
  · next hst =>
    split
    · exact .refl d
    · split
      · exact .refl d
      · next e r _ =>
        refine (((reaches_finish e d a ..).tidy (links_finish hst ..)).trans (tidy_removeCell (not_flies_of ?_))).trans (tidy_handOn ..)
        exact not_inFlightOn_finish ..
  · exact .refl d

theorem goesOn_ack (d : Device) (a : Agent) : GoesOn p p d (d.ack a) := by
  unfold Device.ack
  split
  · next hr => exact goesOn_same rfl rfl fun h => nomatch hr.symm.trans h
  · exact .refl p d

theorem goesOn_applyWrites (d : Device) (a : Agent) (w : Writes) : GoesOn p p d (d.applyWrites a w) := by
  have hw : GoesOn p p d (d.setChan a ((d.chan a).writeRegisters w)) := goesOn_same rfl rfl fun _ => rfl
  unfold Device.applyWrites
  dsimp only
  refine hw.trans ?_
  split <;> split
  · exact ((tidy_abort ..).goesOn rfl).trans (goesOn_ack ..)
  · exact goesOn_ack ..
  · exact (tidy_abort ..).goesOn rfl
  · exact .refl p _

theorem goesOn_setOverrun (d : Device) (a : Agent) : GoesOn p p d (d.setOverrun a) := goesOn_same rfl rfl fun _ => rfl

theorem goesOn_manyTriggers (d : Device) (a : Agent) : GoesOn p p d (d.manyTriggers a) := by
  unfold Device.manyTriggers
  split
  · next hr => exact goesOn_ready hr rfl rfl
  · exact goesOn_setOverrun ..

/-! ### Commands -/

theorem state_start (x : Channel) (c : Cmd) : (x.start c).state = .executing := rfl

/-- A command that has come to its conclusion on a channel that was READY (R160, R163). -/
theorem goesOn_writeBack {c : Cmd} {x : Device × Option Results} (hr : (d.chan a).state = .ready)
    (h : Concluded c a ((d.chan a).params.latch c) (d.setChan a ((d.chan a).start c)) x) :
    GoesOn p p d (writeBack a c x) := by
  have hx := chan_setChan_self d a ((d.chan a).start c)
  have others : ∀ {d₁ : Device} {y : Channel}, Links (d.setChan a ((d.chan a).start c)) d₁ →
      d.Linked p → ∀ b, a ≠ b → (d₁.setChan a y).LinkSound (tget p.agrstLow b) b := fun hl hk b hb =>
    linkSound_setChan_ne hb (hl.linkSound (linkSound_setChan_ne hb (hk b)))
  have hlow : d.Linked p → tget p.agrstLow a = false := fun hk => by
    have := (hk a).reset
    rw [hr] at this
    simpa using this.symm
  cases h with
  | ends r h =>
    refine ⟨h.cmdReset, h.recorded, h.window, fun hk b => ?_⟩
    by_cases hb : a = b
    · subst hb; exact linkSound_rest (.inl ⟨rfl, hlow hk⟩) rfl
    · exact others h.links hk b hb
  | @flies d₁ e r hc h hn hr' hw =>
    have ha : d₁.chan a = _ := (h.links.chan_of_ne (a := a) (by rw [hx, state_start]; decide)).trans hx
    refine ⟨h.cmdReset, h.recorded, h.window, fun hk b => ?_⟩
    by_cases hb : a = b
    · subst hb
      have hy := chan_setChan_self d₁ a { d₁.chan a with state := .inFlight }
      have hst : ((d₁.setChan a { d₁.chan a with state := .inFlight }).chan a).state = .inFlight := congrArg _ hy
      have hcomp : ((d₁.setChan a { d₁.chan a with state := .inFlight }).chan a).complete = false := by rw [hy, ha]; rfl
      have hlat : ((d₁.setChan a { d₁.chan a with state := .inFlight }).chan a).latched =
          some ⟨.request, (d.chan a).params.latch c⟩ := by rw [hy, ha, ← hc]; rfl
      exact ⟨iff_of_false (fun h0 => nomatch hst.symm.trans h0) (by rw [hlow hk]; decide), (fun h0 => nomatch hst.symm.trans h0),
        fun h0 => absurd hst h0, fun _ => ⟨e, hst, hcomp, ⟨_, hlat, hn.index, hn.nonzero, hn.generation⟩, r, hr', hw⟩⟩
    · exact others h.links hk b hb

theorem begun_or_goesOn_trigger (hc : d.Consistent) (c : Cmd) (a : Agent) :
    (d.trigger a c (takeOf c)).Begun ∨ GoesOn p p d (d.trigger a c (takeOf c)) := by
  unfold Device.trigger
  split
  · next hr =>
    unfold Device.runCommand
    have hx := chan_setChan_self d a ((d.chan a).start c)
    have done : ∀ {x}, Concluded c a ((d.chan a).params.latch c) (d.setChan a ((d.chan a).start c)) x →
        GoesOn p p d (writeBack a c x) := fun h => goesOn_writeBack hr h
    have hp : ((d.setChan a ((d.chan a).start c)).chan a).params = (d.chan a).params := by rw [hx]; rfl
    unfold Device.judge
    split
    · exact .inr (done (concluded_refl _))
    · split
      · exact .inr (done (concluded_refl _))
      · rw [hp]
        by_cases hw : c = .warmReset
        · subst hw; exact .inl ⟨_, rfl⟩
        · refine .inr (done (concluded_takeOf hw ((steady_setChan ..).consistent hc) ?_))
          rw [hx, state_start]
          decide
  · exact .inr (goesOn_setOverrun ..)

/-! ### Live events -/

theorem goesOn_agentReset (hc : d.Consistent) (a : Agent) :
    GoesOn p { p with agrstLow := tset p.agrstLow a true } d (d.agentReset a) := by
  have h : GoesOn p { p with agrstLow := tset p.agrstLow a true } d (d.setChan a .inReset) :=
    goesOn_setChan (fun _ hb => tget_tset_ne _ _ (Ne.symm hb)) fun _ => linkSound_rest (.inr ⟨rfl, tget_tset_same ..⟩) rfl
  have hc' : (d.setChan a .inReset).Consistent := (steady_setChan ..).consistent hc
  unfold Device.agentReset
  dsimp only
  split
  · exact h.trans ((tidy_depart hc' [a] (by decide)).goesOn rfl)
  · exact h.trans ((tidy_depart hc' [a] (by decide)).goesOn rfl)
  · exact h
  · exact h

theorem goesOn_agentUnreset (d : Device) (a : Agent) :
    GoesOn p { p with agrstLow := tset p.agrstLow a false } d (d.agentUnreset a) :=
  goesOn_setChan (fun _ hb => tget_tset_ne _ _ (Ne.symm hb)) fun _ => linkSound_rest (.inl ⟨rfl, tget_tset_same ..⟩) rfl

/-- A live event begins a warm reset, or goes on without one. -/
theorem begun_or_goesOn {f : Device → Device} (h : LiveEvent p p' f) (hc : d.Consistent) (hs : d.QueuesServed) :
    (f d).Begun ∨ GoesOn p p' d (f d) := by
  have command : ∀ c ch w, (((d.applyWrites ch w).trigger ch c (takeOf c)).Begun ∨
      GoesOn p p d ((d.applyWrites ch w).trigger ch c (takeOf c))) := fun c ch w =>
    (begun_or_goesOn_trigger ((steady_applyWrites d ch w).consistent hc) c ch).imp id (goesOn_applyWrites d ch w).trans
  have many : ∀ ch w, GoesOn p p d ((d.applyWrites ch w).manyTriggers ch) := fun ch w =>
    (goesOn_applyWrites d ch w).trans (goesOn_manyTriggers ..)
  cases h with
  | command c ch w =>
    unfold commandWrite
    split
    · exact .inr (.refl p d)
    · split
      · exact command c ch w
      · exact .inr (many ch w)
  | link ch w =>
    unfold linkWrite
    split
    · exact .inr (.refl p d)
    · split
      · exact .inr (goesOn_applyWrites d ch w)
      · exact command _ ch w
      · exact .inr (many ch w)
  | agrstFall a => exact .inr (goesOn_agentReset hc a)
  | agrstRise a => exact .inr (goesOn_agentUnreset d a)
  | stdoneRise g => exact .inr ((tidy_stdoneRise hc hs g).goesOn rfl)
  | stdoneFall g => exact .inr ((tidy_stdoneFall d g).goesOn rfl)
  | tick => exact .inr ((tidy_tick d).goesOn rfl)
  | refclk => exact .inr ((⟨rfl, rfl, id, links_of_slots rfl rfl⟩ : Tidy d d.refclk).goesOn rfl)
  | expiry x => exact .inr ((tidy_takeIssued x hc).goesOn rfl)

end

end Sys2Proof.Machine
end

section
/-!
PROOFS. A safe state steps to a safe state (R2, R4, R62, R65, R114, R121, R133, R174 to R177).
-/
namespace Sys2Proof.Machine

section
variable {s t : State} {d d' : Device} {a : Agent} {p : Pins}

/-! ### What a safe state says of the device -/

/-- The roster agrees with every slot (R133). -/
theorem Device.RosterSound.rosterOn (h : d.RosterSound) (a : Agent) (e : EntryIx) : d.RosterOn a e :=
  ⟨fun hn r hr => h.waitless a hn e r hr, fun hn r hr => h.absent a hn e r hr, fun hn => h.untold a hn e⟩

theorem rosterSound_of_rosterOn (h : ∀ a e, d.RosterOn a e)
    (hr : ∀ v, d.recorded = some v → (∀ a, tget v a = (d.agent a).state) ∧ d.reclaimLeft = none ∧ d.issued = [] ∧
      (∀ e r, d.entry e = some r → r.queue = []) ∧ ∀ e a, d.notice e a = {})
    (hw : d.recorded = none → d.Windowed) : d.RosterSound where
  absent a hn e r hr := (h a e).absent hn r hr
  waitless a hn e r hr := (h a e).waitless hn r hr
  untold a hn e := (h a e).untold hn
  recorded := hr
  window := hw

theorem cell_eq_some {r : Record} (hn : (r.queue.map (·.agent)).Nodup) {c : WaitCell} (hc : c ∈ r.queue) :
    r.cell c.agent = some c := by
  cases hf : r.cell c.agent with
  | none => exact absurd (List.find?_eq_none.mp hf c hc) (by simp)
  | some x =>
    have hx := List.find?_some hf
    rw [List.inj_on_of_nodup_map hn (List.mem_of_find?_eq_some hf) hc (by simpa using hx)]

/-- A flight of a device in agreement is that of an ONLINE agent (R121, R133). -/
theorem Device.Flies.sound {e : EntryIx} (h : d.Flies a e) (hc : d.Consistent) (hr : ∀ a e, d.RosterOn a e) : d.FlightSound a := by
  obtain ⟨q, hq, hn⟩ := h.latched
  obtain ⟨r, hre, ho, c, hcq, rfl, ht, hd⟩ := h.target
  have hcell := cell_eq_some (hc.at hre).agrees.queueOnce hcq
  refine ⟨?_, h.complete, q, e, r, c, hq, lookup_ok_iff.mpr ⟨hn, hre⟩, ho, hcell, ht, hd⟩
  by_contra hoff
  have := (hr c.agent e).waitless hoff r hre
  simp [Record.waitedBy, hcell] at this

theorem Device.FlightSound.flies (h : d.FlightSound a) (hs : (d.chan a).state = .inFlight) : ∃ e, d.Flies a e := by
  obtain ⟨q, e, r, c, hq, hl, ho, hc, ht, hd⟩ := h.target
  obtain ⟨hn, hr⟩ := lookup_ok_iff.mp hl
  have hca := List.find?_some hc
  exact ⟨e, hs, h.complete, ⟨q, hq, hn⟩, r, hr, ho, c, List.mem_of_find?_eq_some hc, by simpa using hca, ht, hd⟩

/-- The channels of a live state agree with the inputs. -/
theorem State.ChannelsSound.linked (h : s.ChannelsSound) (hl : Live s d) : d.Linked s.pins := fun a =>
  ⟨by rw [h.reset d hl.dev a, hl.free]; simp, h.settled d hl.dev a, h.latched d hl.dev a,
    fun hs => (h.flight d hl.dev a hs).flies hs⟩

theorem channelsSound_of_linked (hd : s.dev = some d) (hf : s.held = false) (hn : d.recorded = none) (hl : d.Linked s.pins)
    (hc : d.Consistent) (hr : ∀ a e, d.RosterOn a e) : s.ChannelsSound where
  held d' hd' := by cases hd.symm.trans hd'; rw [hf, hn]; simp
  reset d' hd' a := by cases hd.symm.trans hd'; rw [hf, (hl a).reset]; simp
  settled d' hd' a := by cases hd.symm.trans hd'; exact (hl a).settled
  latched d' hd' a := by cases hd.symm.trans hd'; exact (hl a).latched
  flight d' hd' a hs := by
    cases hd.symm.trans hd'
    obtain ⟨e, he⟩ := (hl a).flies hs
    exact he.sound hc hr

theorem State.ChannelsSound.recorded (h : s.ChannelsSound) (hl : Live s d) : d.recorded = none := by
  by_contra hn
  have := (h.held d hl.dev).mpr hn
  rw [hl.free] at this
  cases this

theorem holds_of {P : Device → Prop} (ht : t.dev = some d) (h : P d) : t.Holds P := fun d' hd => by
  cases ht.symm.trans hd
  exact h

/-- The conditions on records, kept by an orderly operation of a safe state. -/
theorem safe_of_orderly (hs : s.Safe) (hd : s.dev = some d) (ho : Orderly d d') (ht : t.dev = some d') (hserved : d'.QueuesServed)
    (hroster : d'.RosterSound) (hch : t.ChannelsSound) : t.Safe :=
  have hc := hs.records d hd
  ⟨holds_of ht (ho.names (hs.names d hd)), holds_of ht (ho.pool (hs.pool d hd)), holds_of ht (ho.queues (hs.queues d hd)),
    holds_of ht (ho.consistent hc), holds_of ht (ho.control (hs.control d hd)), holds_of ht hserved,
    holds_of ht (ho.quotas hc (hs.quotas d hd)), holds_of ht hroster, hch⟩

/-! ### A warm reset begun (R174, R175) -/

theorem chan_warmBegin (d : Device) (a : Agent) : d.warmBegin.chan a = .inReset := tget_replicate ..

/-- The roster states, the window and the notices of a part in warm reset (R133, R174). -/
theorem rosterSound_begun {d' : Device} {c : Bool} (h : d' = { d.warmBegin with cmdReset := c }) (hr : ∀ a e, d'.RosterOn a e) :
    d'.RosterSound := by
  subst h
  refine rosterSound_of_rosterOn hr (fun v hv => ?_) fun hn => by cases hn
  have hv : tabulate (fun a => (d.agent a).state) = v := Option.some.inj hv
  refine ⟨fun a => ?_, rfl, rfl, fun e r hre => ?_, notice_warmBegin d⟩
  · rw [← hv, tget_tabulate]; rfl
  · obtain ⟨r₀, -, rfl⟩ := (mapsRecords_warmBegin d).entry_some hre
    rfl

theorem channelsSound_begun {d' : Device} {c : Bool} (h : d' = { d.warmBegin with cmdReset := c }) (ht : t.dev = some d')
    (hh : t.held = true) : t.ChannelsSound := by
  have hch : ∀ a, d'.chan a = .inReset := fun a => by rw [h]; exact chan_warmBegin d a
  constructor
  · intro x hx
    cases ht.symm.trans hx
    rw [hh, h]
    simp [Device.warmBegin]
  all_goals
    intro x hx a
    cases ht.symm.trans hx
    rw [hch]
  · exact iff_of_true rfl (.inl hh)
  · decide
  · exact fun _ => rfl
  · exact fun hf => by cases hf

/-- An orderly operation that leaves the part in a warm reset just begun. -/
theorem safe_begun (hs : s.Safe) (hd : s.dev = some d) (ho : Orderly d d') {d₁ : Device} {c : Bool}
    (h : d' = { d₁.warmBegin with cmdReset := c }) (ht : t.dev = some d') (hh : t.held = true) : t.Safe := by
  have hr := ho.roster (hs.records d hd) (hs.roster d hd).rosterOn
  refine safe_of_orderly hs hd ho ht ?_ (rosterSound_begun h hr) (channelsSound_begun h ht hh)
  rw [h]
  exact served_of_slots (d := d₁.warmBegin) rfl (served_warmBegin d₁)

/-! ### Live events -/

theorem holdsReset_of_liveEvent {p p' : Pins} {f : Device → Device} (h : LiveEvent p p' f) : p'.holdsReset = p.holdsReset := by
  cases h <;> rfl

theorem safe_live {f : Device → Device} (hs : s.Safe) (hl : Live s d) (he : LiveEvent s.pins t.pins f) (ht : t.dev = some (f d)) :
    t.Safe := by
  have hc := hs.records d hl.dev
  have hserved := hs.served d hl.dev
  have ho := orderly_liveEvent he d
  rcases begun_or_goesOn he hc hserved with ⟨d₁, hb⟩ | hg
  · exact safe_begun hs hl.dev ho hb ht (by simp [State.held, ht, hb])
  · have hr := ho.roster hc (hs.roster d hl.dev).rosterOn
    have hn : (f d).recorded = none := hg.recorded.trans (hs.channels.recorded hl)
    have hheld : t.held = false := by
      have := hl.free
      simp only [State.held, hl.dev] at this
      simp only [State.held, ht, holdsReset_of_liveEvent he, hg.cmdReset, this]
    refine safe_of_orderly hs hl.dev ho ht (served_liveEvent he hc hserved) (rosterSound_of_rosterOn hr (fun v hv => ?_) fun _ => ?_)
      (channelsSound_of_linked ht hheld hn (hg.linked (hs.channels.linked hl)) (ho.consistent hc) hr)
    · rw [hn] at hv; cases hv
    · exact hg.window ((hs.roster d hl.dev).window (hs.channels.recorded hl))

/-! ### While a warm reset is held, or without the part -/

theorem safe_lost (h : t.dev = none) : t.Safe := by
  have hn : ∀ {P : Device → Prop}, t.Holds P := fun d hd => by rw [h] at hd; cases hd
  have hn' : ∀ d, t.dev ≠ some d := fun d hd => by rw [h] at hd; cases hd
  exact ⟨hn, hn, hn, hn, hn, hn, hn, hn, ⟨fun d h => absurd h (hn' d), fun d h => absurd h (hn' d), fun d h => absurd h (hn' d),
    fun d h => absurd h (hn' d), fun d h => absurd h (hn' d)⟩⟩

/-- The same device, or one whose warm reset has lost one cause of several (R172, R173). -/
theorem safe_same (hs : s.Safe) (hd : s.dev = some d) {c : Bool} (ht : t.dev = some { d with cmdReset := c }) (hh : t.held = s.held)
    (hp : s.held = false → t.pins = s.pins) : t.Safe := by
  have hch := hs.channels
  have hr := hs.roster d hd
  have ho : Orderly d { d with cmdReset := c } := (steady_of_board rfl rfl rfl rfl rfl : Steady d { d with cmdReset := c }).orderly
  refine safe_of_orderly hs hd ho ht (served_of_slots (d := d) rfl (hs.served d hd))
    ⟨hr.absent, hr.waitless, hr.untold, hr.recorded, hr.window⟩ ?_
  constructor <;> intro x hx <;> cases ht.symm.trans hx
  · rw [hh]; exact hch.held d hd
  · intro a
    rw [hh]
    refine (hch.reset d hd a).trans ?_
    cases hheld : s.held with
    | true => simp
    | false => rw [hp hheld]
  · exact hch.settled d hd
  · exact hch.latched d hd
  · intro a hf
    obtain ⟨ho, hc, ht⟩ := hch.flight d hd a hf
    exact ⟨ho, hc, ht⟩

/-- Nothing but the pins has changed. -/
theorem safe_idle (hs : s.Safe) (hd : t.dev = s.dev) (hh : t.held = s.held) (hp : s.held = false → t.pins = s.pins) : t.Safe := by
  cases hsd : s.dev with
  | none => exact safe_lost (hd.trans hsd)
  | some d => exact safe_same (c := d.cmdReset) hs hsd (hd.trans hsd) hh hp

/-! ### The release of a warm reset (R176) -/

theorem agent_leaveReset (d : Device) (p : Pins) (a : Agent) :
    (d.leaveReset p).agent a = { d.agent a with state := d.releasedState a } := tget_tabulate ..

theorem chan_leaveReset (d : Device) (p : Pins) (a : Agent) : (d.leaveReset p).chan a = releasedChannel (tget p.agrstLow a) :=
  tget_tabulate ..

theorem linked_leaveReset (d : Device) (p : Pins) : (d.leaveReset p).Linked p := by
  intro a
  have hc := chan_leaveReset d p a
  cases h : tget p.agrstLow a <;> rw [h] at hc <;> constructor <;> rw [hc]
  · exact iff_of_false (by decide) (by decide)
  · decide
  · exact fun _ => rfl
  · exact fun h => by cases h
  · exact iff_of_true rfl rfl
  · decide
  · exact fun _ => rfl
  · exact fun h => by cases h

theorem rejoining_iff_reclaims (d : Device) (a : Agent) : d.releasedState a = .rejoining ↔ d.reclaims a = true := by
  unfold Device.releasedState
  split
  · next h => exact iff_of_false (by decide) (by simp [Device.reclaims, h])
  · split
    · next h => exact iff_of_true rfl h
    · next h => exact iff_of_false (by decide) h

theorem heldBy_of_holdCount (h : d.holdCount a = 0) {e : EntryIx} {r : Record} (hr : d.entry e = some r) : r.heldBy a = false := by
  unfold Device.holdCount at h
  rw [sumEntries_eq, Finset.sum_eq_zero_iff] at h
  have := h e (Finset.mem_univ e)
  simp only [slotValue, hr] at this
  rw [heldBy_eq_false]
  intro x hx hxa
  exact absurd (List.countP_eq_zero.mp this x hx) (by simpa using hxa)

/-- An agent that is OFFLINE or FENCED at the release holds nothing (R176). -/
theorem absent_leaveReset (hr : d.RosterSound) {v : Vector Roster 8} (hv : d.recorded = some v)
    (hst : d.releasedState a = .offline ∨ d.releasedState a = .fenced) {e : EntryIx} {r : Record} (hre : d.entry e = some r) :
    r.heldBy a = false := by
  have hrec : d.recordedState a = (d.agent a).state := by
    simp only [Device.recordedState, hv]
    exact (hr.recorded v hv).1 a
  cases hs : (d.agent a).state with
  | offline => exact hr.absent a (.inl hs) e r hre
  | fenced => exact hr.absent a (.inr hs) e r hre
  | rejoining =>
    rw [hs] at hrec
    simp [Device.releasedState, Device.reclaims, hrec] at hst
  | online =>
    rw [hs] at hrec
    by_cases h0 : d.holdCount a = 0
    · exact heldBy_of_holdCount h0 hre
    · have : 1 ≤ d.holdCount a := Nat.one_le_iff_ne_zero.mpr h0
      simp [Device.releasedState, Device.reclaims, hrec, this] at hst

theorem rosterOn_leaveReset (hr : d.RosterSound) {v : Vector Roster 8} (hv : d.recorded = some v) (p : Pins) (a : Agent)
    (e : EntryIx) : (d.leaveReset p).RosterOn a e := by
  obtain ⟨-, -, -, hq, hn⟩ := hr.recorded v hv
  refine ⟨fun _ r hre => ?_, fun hst r hre => ?_, fun _ => hn e a⟩
  · have := hq e r hre
    simp [Record.waitedBy, Record.cell, this]
  · rw [agent_leaveReset] at hst
    exact absent_leaveReset hr hv hst hre

theorem quotas_leaveReset (h : d.QuotasKept) (p : Pins) : (d.leaveReset p).QuotasKept :=
  quotas_of_same (d := d) rfl (fun a => by rw [agent_leaveReset]; exact ⟨rfl, rfl⟩) h

/-- An agent still REJOINING after the departures of the release reclaims under the window that then runs (R176, R177). -/
theorem windowed_releaseDeparted (d : Device) (p : Pins) : (d.releaseDeparted p).Windowed := by
  unfold Device.releaseDeparted
  rw [depart_eq_departed]
  refine rejoining_of_closeWindow fun ⟨b, hb⟩ => ?_
  rw [reclaimLeft_setRosters, (board_departed ..).reclaimLeft, reclaimLeft_setRosters]
  rw [agent_setRosters, agent_departed, agent_setRosters, agent_leaveReset] at hb
  split at hb
  · cases hb
  · next hgone =>
    have hrec : d.reclaims b = true := (rejoining_iff_reclaims d b).mp hb
    have hwin : d.config.window ≠ 0 := fun h0 => hgone (by simp [allAgents, Device.departsAtRelease, hrec, h0])
    have hany : allAgents.any (fun a => d.reclaims a) = true := List.any_eq_true.mpr ⟨b, by simp [allAgents], hrec⟩
    simp only [Device.leaveReset]
    rw [if_pos ⟨hwin, hany⟩]
    rfl

theorem tidy_releaseDrained (d : Device) (p : Pins) : Tidy (d.releaseDeparted p) (d.releaseDrained p) := by
  unfold Device.releaseDrained
  generalize d.releaseDeparted p = x
  generalize allEntries = l
  induction l generalizing x with
  | nil => exact .refl x
  | cons e l ih => exact (tidy_checkDrain x e).trans (ih _)

theorem tidy_issue (d : Device) (l : List Expiry) : Tidy d { d with issued := l } := ⟨rfl, rfl, id, links_of_slots rfl rfl⟩

/-- What the release leaves, from the departures of the release on. -/
theorem tidy_warmRelease (d : Device) (p : Pins) : Tidy (d.releaseDeparted p) (d.warmRelease p) := by
  rw [warmRelease_eq]
  exact (tidy_releaseDrained d p).trans (tidy_issue ..)

theorem steady_released (d : Device) (p : Pins) : Steady (d.releaseDeparted p) (d.warmRelease p) := by
  rw [warmRelease_eq]
  exact (steady_releaseDrained d p).trans (steady_issue ..)

theorem recorded_releaseDeparted (d : Device) (p : Pins) : (d.releaseDeparted p).recorded = none := by
  unfold Device.releaseDeparted
  rw [recorded_depart]
  rfl

theorem consistent_leaveReset (hc : d.Consistent) (p : Pins) : (d.leaveReset p).Consistent :=
  consistent_of_stdone (d := d) rfl (fun g => ⟨_, group_leaveReset d p g⟩) hc

theorem linked_releaseDeparted (hc : d.Consistent) (p : Pins) : (d.releaseDeparted p).Linked p := fun a => by
  unfold Device.releaseDeparted
  exact (links_depart (consistent_leaveReset hc p) _ .offline).linkSound (linked_leaveReset d p a)

theorem rosterOn_releaseDeparted (hc : d.Consistent) (hr : d.RosterSound) {v : Vector Roster 8} (hv : d.recorded = some v)
    (p : Pins) (a : Agent) (e : EntryIx) : (d.releaseDeparted p).RosterOn a e := by
  unfold Device.releaseDeparted
  exact rosterOn_depart (consistent_leaveReset hc p) (rosterOn_leaveReset hr hv p) a e

theorem quotas_releaseDeparted (hc : d.Consistent) (hq : d.QuotasKept) (p : Pins) : (d.releaseDeparted p).QuotasKept := by
  unfold Device.releaseDeparted
  exact quotas_depart (consistent_leaveReset hc p) (quotas_leaveReset hq p)

theorem consistent_releaseDeparted (hc : d.Consistent) (p : Pins) : (d.releaseDeparted p).Consistent := by
  unfold Device.releaseDeparted
  exact consistent_depart (consistent_leaveReset hc p)

/-- A release of the part of a safe state in warm reset. -/
theorem safe_released (hs : s.Safe) (hd : s.dev = some d) (hh : s.held = true) (ht : t.dev = some (d.warmRelease t.pins))
    (hf : t.held = false) : t.Safe := by
  obtain ⟨v, hv⟩ := Option.ne_none_iff_exists'.mp ((hs.channels.held d hd).mp hh)
  have hc := hs.records d hd
  have hk := keeps_warmRelease d t.pins
  have hcons := consistent_warmRelease hc t.pins
  have hcd := consistent_releaseDeparted hc t.pins
  have hst := steady_released d t.pins
  have htd := tidy_warmRelease d t.pins
  have hro : ∀ a e, (d.warmRelease t.pins).RosterOn a e := fun a e =>
    hst.toCalm.rosterOn hcd (rosterOn_releaseDeparted hc (hs.roster d hd) hv t.pins a e)
  have hn : (d.warmRelease t.pins).recorded = none := htd.recorded.trans (recorded_releaseDeparted d t.pins)
  have hlinked : (d.warmRelease t.pins).Linked t.pins := fun a => htd.links.linkSound (linked_releaseDeparted hc t.pins a)
  refine ⟨holds_of ht (hk.names (hs.names d hd)), holds_of ht (hk.pool (hs.pool d hd)), holds_of ht (hk.queues (hs.queues d hd)),
    holds_of ht hcons, holds_of ht (hk.control (hs.control d hd)), holds_of ht (served_warmRelease hc (hs.served d hd) t.pins),
    holds_of ht (hst.quotas hcd (quotas_releaseDeparted hc (hs.quotas d hd) t.pins)),
    holds_of ht (rosterSound_of_rosterOn hro (fun v hv => ?_) fun _ => htd.window (windowed_releaseDeparted d t.pins)),
    channelsSound_of_linked ht hf hn hlinked hcons hro⟩
  rw [hn] at hv
  cases hv

/-! ### Every step -/

theorem safe_step (hs : s.Safe) (h : step s = .next t) : t.Safe := by
  cases effect_step h with
  | lost h => exact safe_lost h
  | cold b hp h => exact safe_cold (b := b) (by rw [hp]; exact h)
  | idle hd hh hp => exact safe_idle hs hd hh hp
  | live d f hl he ht => exact safe_live hs hl he ht
  | begins d hl ht hh => exact safe_begun (c := d.warmBegin.cmdReset) hs hl.dev (steady_warmBegin d).orderly rfl ht hh
  | uncaused d hd hh ht hh' => exact safe_same hs hd ht (hh'.trans hh.symm) fun h0 => by rw [hh] at h0; cases h0
  | releases d hd hh ht hf =>
    -- The command's cause goes first, as if a cause on the board still held the reset: the release is then that of any state.
    have hs' : ({ s with dev := some { d with cmdReset := false }, pins := { s.pins with nresetLow := true } } : State).Safe :=
      safe_same hs hd rfl ((by simp [State.held, Pins.holdsReset] : _ = true).trans hh.symm) fun h0 => by rw [hh] at h0; cases h0
    exact safe_released hs' rfl (by simp [State.held, Pins.holdsReset]) ht hf

end

/-- Settles O58: the agreement of records and groups by itself, and the whole of a safe state by what each kind of step comes
to. -/
theorem stepsKeepRecordsAndGroupsAgreed : Obligations.StepsKeepRecordsAndGroupsAgreed := fun _ _ h =>
  ⟨holds_step consistent_cold (fun _ _ _ hc => hc) h, fun hs =>
    have ht := safe_step hs h
    ⟨ht.roster, ht.channels, ht⟩⟩

end Sys2Proof.Machine
end

section
/-!
PROOFS. The grant decision on a cell at the head of the queue (R24, R25, R71 to R73, R76, R77): what a grant writes, and the
batch of SHARED cells granted in queue order.
-/
namespace Sys2Proof.Machine

section
variable {d d' : Device} {e : EntryIx} {r r' : Record} {c : WaitCell} {q : List WaitCell}

/-! ### What a grant writes -/

/-- The device with the value `t` in its ticket counter (R24). -/
def Device.withTicket (d : Device) (t : Ticket) : Device := { d with ticket := t }

theorem Replaces.eq_putRecord (h : Replaces e r r' d d') (ht : d'.ticket = nextTicket d.ticket) :
    d' = (d.withTicket (nextTicket d.ticket)).putRecord e r' := by
  rw [h.after, ht]; rfl

theorem grantCell_eq (hr : d.entry e = some r) (c : WaitCell) :
    d.grantCell e c = (d.withTicket (nextTicket d.ticket)).putRecord e (r.grant c d.ticket) :=
  (replaces_grantCell hr c).eq_putRecord (by rw [Device.grantCell, hr]; rfl)

theorem newGrant_eq (hr : d.entry e = some r) (a : Agent) (m : GrantMode) (p : Priority) (t : Term) :
    d.newGrant e a m p t = (d.withTicket (nextTicket d.ticket)).putRecord e
      (r.withHolder { agent := a, mode := m, ticket := d.ticket, priority := p, remaining := t }) :=
  (replaces_newGrant hr a m p t).eq_putRecord rfl

theorem convertHolder_eq (hr : d.entry e = some r) (a : Agent) (p : Priority) (t : Term) :
    d.convertHolder e a p t =
      (d.withTicket (nextTicket d.ticket)).putRecord e (r.converted a d.ticket p (r.grantedTerm t)) :=
  (replaces_convertHolder hr a p t).eq_putRecord rfl

theorem upgrade_eq (hr : d.entry e = some r) (a : Agent) (p : Priority) (t : Term) :
    (d.removeCell e a).convertHolder e a p t =
      (d.withTicket (nextTicket d.ticket)).putRecord e ((r.withoutCell a).converted a d.ticket p (r.grantedTerm t)) :=
  (replaces_upgrade hr a p t).eq_putRecord rfl

/-- The holder record of the sole holder converted by a grant (R34, R71). -/
theorem converted_sole {h : Holder} {a : Agent} (hh : r.holders = [h]) (ha : h.agent = a) (t : Ticket) (p : Priority)
    (m : Term) : r.converted a t p m = { r with
      holders := [{ agent := a, mode := .exclusive, ticket := t, priority := p, remaining := m }]
      occupancy := .heldX } := by
  subst ha
  simp [Record.converted, hh]

/-- The cell at the head is the one that its grant removes. -/
theorem filter_head (hq : r.queue = c :: q) :
    r.queue.filter (fun x => x.agent ≠ c.agent) = q.filter fun x => x.agent ≠ c.agent := by
  rw [hq, List.filter_cons_of_neg (by simp)]

/-- The record after the grant of an EXCLUSIVE head to an entry without holders (R72, R76). -/
theorem grant_exclusive (hq : r.queue = c :: q) (hm : c.mode = .exclusive) (hh : r.holders = []) (t : Ticket) :
    r.grant c t = { r with
      queue := q.filter fun x => x.agent ≠ c.agent
      holders := [{ agent := c.agent, mode := .exclusive, ticket := t, priority := c.priority
                    remaining := termGranted r c.term }]
      occupancy := .heldX } := by
  unfold Record.grant Record.withHolder Record.withoutCell
  rw [filter_head hq, hh]
  simp [WaitCell.granted, occupancyOf, hm, termGranted, Record.grantedTerm, Term.clamp]

/-! ### The paths of the decision -/

theorem grantDecision_cons (hr : d.entry e = some r) (hd : r.decidable = true) (hq : r.queue = c :: q) :
    (c.mode = .upgrade → d.grantDecision e = d.decideUpgrade e r c) ∧
    (c.mode = .exclusive → d.grantDecision e = d.decideExclusive e r c) ∧
    (c.mode = .shared → d.grantDecision e = d.decideShared e r) := by
  refine ⟨fun hm => ?_, fun hm => ?_, fun hm => ?_⟩ <;> simp [Device.grantDecision, hr, hd, hq, hm]

theorem decideExclusive_granted (hh : r.holders = [])
    (hg : r.group = none ∨ ∃ g, r.group = some g ∧ (d.group g).select = .agent c.agent ∧ (d.group g).settleKnown = true) :
    d.decideExclusive e r c = d.grantQueued e c := by
  unfold Device.decideExclusive
  rw [if_neg (not_not.mpr hh)]
  rcases hg with hg | ⟨g, hg, hs, hk⟩
  · rw [hg]
  · have hcon : (d.group g).connects c.agent = true := by simp [GroupRec.connects, hs, hk]
    rw [hg]
    exact if_pos hcon

/-- A head that what holds the entry blocks leaves everything as it was (R71 to R73). -/
theorem grantDecision_blocked (hr : d.entry e = some r) (hd : r.decidable = true) (hq : r.queue = c :: q)
    (hb : r.HeadBlocked) : d.grantDecision e = d := by
  obtain ⟨hu, hx, hs⟩ := grantDecision_cons hr hd hq
  have hb := hb c q hq
  cases hm : c.mode with
  | upgrade => rw [hu hm, Device.decideUpgrade, if_neg (by rwa [hm] at hb)]
  | exclusive => rw [hx hm, Device.decideExclusive, if_pos (by rwa [hm] at hb)]
  | shared =>
    rw [hm] at hb
    obtain ⟨h, hh, hhm⟩ := hb
    rw [hs hm, Device.decideShared, if_pos (List.any_eq_true.mpr ⟨h, hh, by simp [hhm]⟩)]

/-- Settles O14, head by head: the EXCLUSIVE grant, the conversion, and the head that is blocked. -/
theorem headCellGrantedOrBlocked : Obligations.HeadCellGrantedOrBlocked := by
  intro d e r c q hr hd hq
  obtain ⟨hu, hx, -⟩ := grantDecision_cons hr hd hq
  refine ⟨fun hm hh hg => ?_, fun h hm hh ha => ?_, fun hb => grantDecision_blocked hr hd hq fun c' q' hq' => ?_⟩
  · rw [hx hm, decideExclusive_granted hh hg, Device.grantQueued, grantCell_eq hr, grant_exclusive hq hm hh]
    rfl
  · rw [hu hm, Device.decideUpgrade, if_pos (by simp [hh, ha]), upgrade_eq hr,
      converted_sole (r := r.withoutCell c.agent) hh ha, Record.withoutCell, filter_head hq, ← ha]
    rfl
  · rw [hq] at hq'
    cases hq'
    rcases hb with ⟨hm, hb⟩ | ⟨hm, hb⟩ | ⟨hm, hb⟩ <;> rw [hm] <;> exact hb

/-! ### The SHARED batch (R73) -/

/-- The holder records of SHARED cells granted one after another, head first, from the ticket `t` on (R24, R25). -/
def sharesOf (r : Record) : List WaitCell → Ticket → List Holder
  | [], _ => []
  | c :: l, t => c.granted r t :: sharesOf r l (nextTicket t)

theorem sharesOf_eq (r : Record) (l : List WaitCell) (hl : ∀ c ∈ l, c.mode = .shared) (t : Ticket) :
    sharesOf r l t = l.zipIdx.map fun x =>
      { agent := x.1.agent, mode := .shared, ticket := nextTicket^[x.2] t, priority := x.1.priority
        remaining := termGranted r x.1.term } := by
  induction l generalizing t with
  | nil => rfl
  | cons c l ih =>
    rw [sharesOf, ih (fun x hx => hl x (by simp [hx])), List.zipIdx_cons, List.map_cons, List.zipIdx_succ, List.map_map]
    have hc : c.granted r t = { agent := c.agent, mode := .shared, ticket := t, priority := c.priority
                                remaining := termGranted r c.term } := by
      simp [WaitCell.granted, hl c (by simp), termGranted, Record.grantedTerm, Term.clamp]
    rw [hc]
    rfl

/-- A grant leaves the terms of the record, and so what the next grants are. -/
theorem sharesOf_grant (r : Record) (c : WaitCell) (t₀ : Ticket) (l : List WaitCell) (t : Ticket) :
    sharesOf (r.grant c t₀) l t = sharesOf r l t := by
  induction l generalizing t with
  | nil => rfl
  | cons x l ih => rw [sharesOf, ih]; rfl

theorem ticket_grantQueued (hr : d.entry e = some r) (c : WaitCell) : (d.grantQueued e c).ticket = nextTicket d.ticket := by
  rw [Device.grantQueued, post_ticket, grantCell_eq hr]; rfl

theorem groups_grantQueued (d : Device) (e : EntryIx) (c : WaitCell) : (d.grantQueued e c).groups = d.groups := by
  rw [Device.grantQueued, post_groups]
  cases hr : d.entry e with
  | none => rw [Device.grantCell, hr]
  | some r => rw [grantCell_eq hr]; rfl

theorem generation_grantQueued (hr : d.entry e = some r) (c : WaitCell) :
    ((d.grantQueued e c).slot e).generation = (d.slot e).generation := by
  unfold Device.grantQueued Device.slot
  rw [post_slots]
  exact (replaces_grantCell hr c).generation e

/-- The GRANTED notice of a grant from a queue (R77). -/
theorem notice_grantQueued (hr : d.entry e = some r) (c : WaitCell) (a : Agent) : (d.grantQueued e c).notice e a =
    if a = c.agent ∧ (d.agent a).state = .online then (d.notice e a).add .granted (d.slot e).generation
    else d.notice e a := by
  have hrep := replaces_grantCell hr c
  have hn : ∀ x, (d.grantCell e c).notice e x = d.notice e x := fun x => by unfold Device.notice; rw [hrep.notices]
  unfold Device.grantQueued Device.post
  rw [notice_postGen, hn, hn, hrep.generation]
  by_cases ha : a = c.agent
  · subst ha
    simp [Device.Online, hrep.agent]
  · rw [if_neg (fun h => ha h.1.2.symm), if_neg (fun h => ha h.1)]

/-- SHARED cells at the front of a queue granted in turn. -/
structure SharesGranted (e : EntryIx) (r : Record) (l rest : List WaitCell) (d d' : Device) : Prop where
  entry : d'.entry e = some { r with
    queue := rest
    holders := r.holders ++ sharesOf r l d.ticket
    occupancy := if l = [] then r.occupancy else occupancyOf (r.holders ++ sharesOf r l d.ticket) }
  ticket : d'.ticket = nextTicket^[l.length] d.ticket
  notices : ∀ a, d'.notice e a =
    if a ∈ l.map (·.agent) ∧ (d.agent a).state = .online then (d.notice e a).add .granted (d.slot e).generation
    else d.notice e a
  groups : d'.groups = d.groups

/-- The queue that the grant of its head leaves, where it names no agent twice. -/
theorem queue_grant {l rest : List WaitCell} (hq : r.queue = c :: l ++ rest) (hn : (r.queue.map (·.agent)).Nodup) (t : Ticket) :
    (r.grant c t).queue = l ++ rest := by
  change r.queue.filter (fun x => x.agent ≠ c.agent) = l ++ rest
  rw [hq, List.cons_append, List.map_cons, List.nodup_cons] at hn
  rw [hq, List.cons_append, List.filter_cons_of_neg (by simp), List.filter_eq_self]
  intro x hx
  simp only [decide_eq_true_eq]
  exact fun hxa => hn.1 (List.mem_map.mpr ⟨x, hx, hxa⟩)

theorem sharesGranted (l rest : List WaitCell) (hr : d.entry e = some r) (hq : r.queue = l ++ rest)
    (hn : (r.queue.map (·.agent)).Nodup) :
    SharesGranted e r l rest d (l.foldl (fun d c => d.grantQueued e c) d) := by
  induction l generalizing d r with
  | nil => exact ⟨by simp [sharesOf, hr, show rest = r.queue from hq.symm], rfl, fun a => by simp, rfl⟩
  | cons c l ih =>
    have hq' := queue_grant hq hn d.ticket
    have hn' := hn
    rw [hq, List.cons_append, List.map_cons, List.nodup_cons] at hn'
    obtain ⟨hcl, hn'⟩ := hn'
    obtain ⟨he, ht, hnot, hg⟩ := ih (entry_grantQueued hr c) hq' (by rw [hq']; exact hn')
    have hholders : (r.grant c d.ticket).holders ++ sharesOf (r.grant c d.ticket) l (d.grantQueued e c).ticket =
        r.holders ++ sharesOf r (c :: l) d.ticket := by
      rw [sharesOf_grant, ticket_grantQueued hr]
      exact List.append_assoc ..
    refine ⟨?_, ?_, fun a => ?_, hg.trans (groups_grantQueued ..)⟩
    · rw [List.foldl_cons, he, hholders, if_neg (List.cons_ne_nil c l)]
      split
      · next hl => subst hl; rfl
      · rfl
    · rw [List.foldl_cons, ht, ticket_grantQueued hr]; rfl
    · have hag : (d.grantQueued e c).agent a = d.agent a := agent_of_agents (onlyEntry_grantQueued d e c).agents a
      rw [List.foldl_cons, hnot, hag, generation_grantQueued hr, notice_grantQueued hr, List.map_cons]
      by_cases hca : a = c.agent
      · subst hca
        have hnotin : c.agent ∉ l.map (·.agent) := fun h => hcl (by rw [List.map_append]; exact List.mem_append_left _ h)
        simp [hnotin]
      · simp [hca]

/-- SHARED holder records behind SHARED holders make the entry HELD_S (R38). -/
theorem occupancyOf_shared {hs : List Holder} (hne : hs ≠ []) (h : ∀ x ∈ hs, x.mode = .shared) : occupancyOf hs = .heldS := by
  cases hs with
  | nil => exact absurd rfl hne
  | cons x l => simp [occupancyOf, h x (by simp)]

/-- Settles O15: the batch is the longest SHARED front of the queue, and its cells are granted in turn. -/
theorem sharedBatchGrantedInOrder : Obligations.SharedBatchGrantedInOrder := by
  intro d e r c q hr hd hq hm hh hn batch d'
  have hbatch : ∀ x ∈ batch, x.mode = .shared := fun x hx => (mem_takeWhile_shared hx).2
  have hd' : d' = batch.foldl (fun d c => d.grantQueued e c) d := by
    have hany : ¬ (r.holders.any fun h => h.mode = .exclusive) = true := by
      rw [List.any_eq_true]
      rintro ⟨h, hmem, hx⟩
      rw [hh h hmem] at hx
      cases hx
    exact ((grantDecision_cons hr hd hq).2.2 hm).trans (if_neg hany)
  have hne : batch ≠ [] := by
    simp only [batch]
    rw [hq, List.takeWhile_cons_of_pos (by simp [hm])]
    exact List.cons_ne_nil _ _
  obtain ⟨he, ht, hnot, hg⟩ := sharesGranted batch (r.queue.dropWhile fun x => x.mode = .shared) hr
    List.takeWhile_append_dropWhile.symm hn
  rw [← hd'] at he ht hnot hg
  refine ⟨?_, ht, hnot, hg, onlyEntry_grantDecision d e⟩
  rw [he, if_neg hne, sharesOf_eq r batch hbatch, occupancyOf_shared]
  · exact fun h => hne (by simpa using (List.append_eq_nil_iff.mp h).2)
  · intro x hx
    rcases List.mem_append.mp hx with hx | hx
    · exact hh x hx
    · obtain ⟨y, -, rfl⟩ := List.mem_map.mp hx
      rfl

end

end Sys2Proof.Machine
end

section
/-!
PROOFS. REQUEST (R27 to R35): the form and the refusals of Table 17, the grant or conversion at once, and UNAVAILABLE.
-/
namespace Sys2Proof.Machine

/-! ### The first condition that holds -/

/-- The first condition of the table that holds has the result `c`. -/
def FirstHolds : List (Prop × ResultCode) → ResultCode → Prop
  | [], _ => False
  | (p, k) :: l, c => (p ∧ k = c) ∨ (¬ p ∧ FirstHolds l c)

theorem firstHolds_append {before after : List (Prop × ResultCode)} {cond : Prop} {code : ResultCode}
    (hb : ∀ x ∈ before, ¬ x.1) (hc : cond) : FirstHolds (before ++ (cond, code) :: after) code := by
  induction before with
  | nil => exact .inl ⟨hc, rfl⟩
  | cons x l ih => exact .inr ⟨hb x (by simp), ih fun y hy => hb y (by simp [hy])⟩

/-- One test of a chain of refusals is one row of the table. -/
theorem ite_of_firstHolds {p p' : Prop} [Decidable p'] {k c : ResultCode} {l : List (Prop × ResultCode)} {x : Option ResultCode}
    (hp : p ↔ p') (hl : FirstHolds l c → x = some c) (h : FirstHolds ((p, k) :: l) c) :
    (if p' then some k else x) = some c := by
  rcases h with ⟨h, rfl⟩ | ⟨h, ht⟩
  · exact if_pos (hp.mp h)
  · rw [if_neg fun h' => h (hp.mpr h'), hl ht]

section
variable {s : State} {d d₁ : Device} {ch : Agent} {w : Writes} {e : EntryIx} {r : Record} {m : WaitMode} {q : Priority}
  {t : Term} {v : Vector Channel 8}

/-- The refusals of REQUEST as Table 17 has them, and the hold quota after them (R28, R29). -/
def requestTable (d : Device) (ch : Agent) (r : Record) (m : WaitMode) : List (Prop × ResultCode) :=
  [(r.lifecycle ≠ .live, .retiring),
   (m ≠ .exclusive ∧ r.sharing = .exclusiveOnly, .modeConflict),
   (r.heldBy ch = true ∧ ¬ (m = .upgrade ∧ (r.holder ch).map (·.mode) = some .shared), .alreadyHeld),
   (m = .upgrade ∧ r.heldBy ch = false, .notHolder),
   (r.waitedBy ch = true, .alreadyWaiting),
   (m = .upgrade ∧ ∃ c ∈ r.queue, c.mode = .upgrade, .upgradeConflict),
   (m ≠ .upgrade ∧ (d.agent ch).holdQuota ≤ d.holdCount ch + d.nonUpgradeWaits ch, .holdQuota)]

theorem belowHoldQuota_eq_false {a : Agent} :
    d.belowHoldQuota a = false ↔ (d.agent a).holdQuota ≤ d.holdCount a + d.nonUpgradeWaits a := by
  simp [Device.belowHoldQuota]

/-- The model's chain of refusals is the table, row by row. -/
theorem requestRefusal_of_table {c : ResultCode} (h : FirstHolds (requestTable d ch r m) c) :
    requestRefusal d ch r m = some c := by
  unfold requestRefusal
  refine ite_of_firstHolds isRetiring_iff.symm ?_ h
  refine ite_of_firstHolds Iff.rfl ?_
  refine ite_of_firstHolds Iff.rfl ?_
  refine ite_of_firstHolds Iff.rfl ?_
  refine ite_of_firstHolds Iff.rfl ?_
  refine ite_of_firstHolds (and_congr_right fun _ => by simp [List.any_eq_true]) ?_
  exact ite_of_firstHolds (and_congr_right fun _ => belowHoldQuota_eq_false.symm) False.elim

/-! ### The form of a REQUEST (R27) -/

theorem requestMode_bad {x : Byte} (h : x = 0 ∨ 3 < x.toNat) : requestMode x = none := by
  have : ∀ k : Byte, 1 ≤ k.toNat → k.toNat ≤ 3 → x ≠ k := by
    rintro k h1 h3 rfl
    rcases h with rfl | h
    · simp at h1
    · omega
  unfold requestMode
  rw [if_neg (this 1 (by decide) (by decide)), if_neg (this 2 (by decide) (by decide)), if_neg (this 3 (by decide) (by decide))]

theorem priorityOf_bad {x : Byte} (h : 3 < x.toNat) : priorityOf x = none := dif_neg (by omega)

theorem requestedTerm_bad {x : BitVec 32} (h : 65535 < x.toNat) (hx : x ≠ 0xFFFFFFFF) : requestedTerm x = none := by
  rw [requestedTerm, if_neg hx, if_neg (by omega)]

theorem requestedTerm_good {x : BitVec 32} (h : (x = 0xFFFFFFFF ∧ t = .unbounded) ∨ (x.toNat ≤ 65535 ∧ t = .ms x.toNat)) :
    requestedTerm x = some t := by
  rcases h with ⟨rfl, rfl⟩ | ⟨h, rfl⟩
  · rfl
  · rw [requestedTerm, if_neg (by rintro rfl; simp at h), if_pos h]

/-- A REQUEST with a parameter out of range ends BAD_PARAM (R27). -/
theorem takeRequest_malformed {p : Params} (hl : d.lookup p.handle = .ok (e, r))
    (h : requestMode p.mode = none ∨ priorityOf p.prio = none ∨ requestedTerm p.term = none) :
    takeRequest ch p d = done d .badParam := by
  unfold takeRequest
  rw [hl]
  dsimp only
  split
  · next hm hq ht =>
    rw [hm, hq, ht] at h
    rcases h with h | h | h <;> cases h
  · rfl

/-- The claim of a REQUEST in good form (R30, R33, R35). -/
def claimOf (d : Device) (ch : Agent) (m : WaitMode) (q : Priority) (t : Term) : Claim :=
  { agent := ch, mode := m, priority := min q (d.agent ch).cap, term := t, waitLimit := (d.params ch).waitlim.toNat }

theorem takeRequest_refused (h : RequestNames d ch e r m q t) {c : ResultCode} (hc : requestRefusal d ch r m = some c) :
    takeRequest ch ((d.params ch).latch .request) (d.withChannels v) = done (d.withChannels v) c := by
  obtain ⟨hl, hm, hq, ht⟩ := h
  have hc' : requestRefusal (d.withChannels v) ch r m = some c := hc
  simp [takeRequest, Params.latch, hl, hm, hq, ht, hc']

theorem takeRequest_passed (h : RequestNames d ch e r m q t) (hc : requestRefusal d ch r m = none) :
    takeRequest ch ((d.params ch).latch .request) (d.withChannels v) =
      decideClaim (d.withChannels v) e r (claimOf d ch m q t) := by
  obtain ⟨hl, hm, hq, ht⟩ := h
  have hc' : requestRefusal (d.withChannels v) ch r m = none := hc
  simp [takeRequest, Params.latch, hl, hm, hq, ht, hc', claimOf]

/-- What a REQUEST answers, where its rule does the same whatever the channels hold. -/
theorem exec_request (h : StartsOnline s d ch .request w d₁) {d' : Device} {x : Results} (hc : d'.channels = d₁.channels)
    (ht : ∀ v, takeRequest ch ((d₁.params ch).latch .request) (d₁.withChannels v) = (d'.withChannels v, some x)) :
    exec (.request ch w) s = .next (s.withDev (d'.answered ch .request x)) :=
  exec_of_online h rfl hc ht

/-- Settles O36: the form first, then the table of refusals, row by row. -/
theorem requestRefusalsInOrder : Obligations.RequestRefusalsInOrder := by
  intro s d d₁ ch w e r hs p hl
  refine ⟨fun hbad => exec_request hs rfl fun v => takeRequest_malformed (e := e) (r := r) hl ?_, ?_⟩
  · rcases hbad with h | h | h | ⟨h, hx⟩
    · exact .inl (requestMode_bad (.inl h))
    · exact .inl (requestMode_bad (.inr h))
    · exact .inr (.inl (priorityOf_bad h))
    · exact .inr (.inr (requestedTerm_bad h hx))
  · intro m q t hn table before cond code after htable hb hc
    have hfirst : FirstHolds (requestTable d₁ ch r m) code := by
      change FirstHolds table code
      rw [htable]
      exact firstHolds_append hb hc
    exact exec_request hs rfl fun v => takeRequest_refused hn (requestRefusal_of_table hfirst)

/-! ### A REQUEST that passes -/

/-- What passes the checks of R28 and R29 is refused by no row of the table. -/
theorem RequestPasses.not_refused (h : RequestPasses d ch r m) : requestRefusal d ch r m = none := by
  obtain ⟨hlive, hshare, hholds, hwaits, hsingle, hquota⟩ := h
  have hx : ¬ (m ≠ .exclusive ∧ r.sharing = .exclusiveOnly) := by
    rintro ⟨hm, hs⟩
    rcases hshare with h | h
    · exact hm h
    · rw [hs] at h; cases h
  have hheld : ¬ (r.heldBy ch = true ∧ ¬ (m = .upgrade ∧ (r.holder ch).map (·.mode) = some .shared)) := by
    rintro ⟨hh, hn⟩
    split at hholds
    · next hm => exact hn ⟨hm, hholds⟩
    · rw [hh] at hholds; cases hholds
  have hnot : ¬ (m = .upgrade ∧ r.heldBy ch = false) := by
    rintro ⟨hm, hh⟩
    rw [if_pos hm] at hholds
    obtain ⟨x, hx, -⟩ := Option.map_eq_some_iff.mp hholds
    rw [heldBy_of_holder hx] at hh
    cases hh
  have hup : ¬ (m = .upgrade ∧ (r.queue.any fun c => c.mode = .upgrade) = true) := by
    rintro ⟨hm, hu⟩
    obtain ⟨c, hc, hcm⟩ := List.any_eq_true.mp hu
    exact hsingle hm c hc (by simpa using hcm)
  have hq : ¬ (m ≠ .upgrade ∧ d.belowHoldQuota ch = false) := by
    rintro ⟨hm, hb⟩
    exact absurd (hquota hm) (not_lt.mpr (belowHoldQuota_eq_false.mp hb))
  rw [requestRefusal, if_neg (by simp [isRetiring_of_live hlive]), if_neg hx, if_neg hheld, if_neg hnot,
    if_neg (by simp [hwaits]), if_neg hup, if_neg hq]

/-- A claim that no case of R31 serves at once waits. -/
theorem claimOutcome_wait {c : Claim} (h : ¬ servedAtOnce c.agent r c.mode) : claimOutcome d r c = .wait := by
  rcases claimOutcome_cases d r c with ⟨-, hm, ho, hq, -⟩ | ⟨g, -, hm, ho, hq, -⟩ | ⟨-, hm, ho, hq⟩ | ⟨-, hm, ha⟩ | hw
  · rw [hm] at h; exact absurd ⟨ho, hq⟩ h
  · rw [hm] at h; exact absurd ⟨ho, hq⟩ h
  · rw [hm] at h; exact absurd ⟨ho, hq⟩ h
  · rw [hm] at h; exact absurd ha h
  · exact hw

/-- Settles O38: the way into the queue asks the wait limit first (R35). -/
theorem requestUnavailable : Obligations.RequestUnavailable := by
  intro s d d₁ ch w e r m q t hs hn hp hserved hlimit
  refine exec_request hs rfl fun v => ?_
  have hw : claimOutcome (d₁.withChannels v) r (claimOf d₁ ch m q t) = .wait := claimOutcome_wait hserved
  have h0 : (claimOf d₁ ch m q t).waitLimit = 0 := by simp [claimOf, hlimit]
  rw [takeRequest_passed hn hp.not_refused, decideClaim, hw]
  exact if_pos h0

/-! ### A REQUEST served at once (R32, R34) -/

theorem claimOutcome_exclusive {c : Claim} (hm : c.mode = .exclusive) (ho : r.occupancy = .idle) (hq : r.queue = [])
    (hg : r.group = none ∨ ∃ g, r.group = some g ∧ (d.group g).select = .agent c.agent ∧ (d.group g).settleKnown = true) :
    claimOutcome d r c = .grant .exclusive := by
  unfold claimOutcome
  rw [hm]
  dsimp only
  rw [if_pos ⟨ho, hq⟩]
  rcases hg with hg | ⟨g, hg, hs, hk⟩
  · rw [hg]
  · rw [hg]
    exact if_pos (by simp [GroupRec.connects, hs, hk])

theorem claimOutcome_shared {c : Claim} (hm : c.mode = .shared) (ho : r.occupancy = .idle ∨ r.occupancy = .heldS)
    (hq : r.queue = []) : claimOutcome d r c = .grant .shared := by
  unfold claimOutcome
  rw [hm]
  exact if_pos ⟨ho, hq⟩

theorem claimOutcome_convert {c : Claim} (hm : c.mode = .upgrade) (ha : r.holders.map (·.agent) = [c.agent]) :
    claimOutcome d r c = .convert := by
  unfold claimOutcome
  rw [hm]
  exact if_pos ha

/-- The answer of a REQUEST granted at once, whatever the channels hold (R32). -/
theorem exec_request_granted (hs : StartsOnline s d ch .request w d₁) (hn : RequestNames d₁ ch e r m q t)
    (hp : RequestPasses d₁ ch r m) {g : GrantMode}
    (ho : ∀ v, claimOutcome (d₁.withChannels v) r (claimOf d₁ ch m q t) = .grant g) :
    exec (.request ch w) s = .next (s.withDev
      (((d₁.withTicket (nextTicket d₁.ticket)).putRecord e (r.withHolder
        { agent := ch, mode := g, ticket := d₁.ticket, priority := min q (d₁.agent ch).cap
          remaining := termGranted r t })).answered ch .request
        { result := .granted, priority := some (min q (d₁.agent ch).cap), ticket := some d₁.ticket, mode := some g
          term := some (termGranted r t) })) := by
  refine exec_request hs rfl fun v => ?_
  rw [takeRequest_passed hn hp.not_refused, decideClaim, ho v]
  simp only [newGrant_withChannels, newGrant_eq (lookup_entry hn.entry)]
  rfl

/-- The answer of an UPGRADE REQUEST that converts its record at once, whatever the channels hold (R34). -/
theorem exec_request_converted (hs : StartsOnline s d ch .request w d₁) (hn : RequestNames d₁ ch e r .upgrade q t)
    (hp : RequestPasses d₁ ch r .upgrade) (ha : r.holders.map (·.agent) = [ch]) :
    exec (.request ch w) s = .next (s.withDev
      ((((d₁.withTicket (nextTicket d₁.ticket)).putRecord e
        (r.converted ch d₁.ticket (min q (d₁.agent ch).cap) (termGranted r t))).evaluate e).answered ch .request
        { result := .granted, priority := some (min q (d₁.agent ch).cap), ticket := some d₁.ticket, mode := some .exclusive
          term := some (termGranted r t) })) := by
  refine exec_request hs (onlyEntry_evaluate ..).channels fun v => ?_
  rw [takeRequest_passed hn hp.not_refused, decideClaim, claimOutcome_convert (c := claimOf d₁ ch .upgrade q t) rfl ha]
  simp only [convertHolder_withChannels, evaluate_withChannels, convertHolder_eq (lookup_entry hn.entry)]
  rfl

/-- Settles O37: the outcome of R31 in each of the three cases, and what its grant writes. -/
theorem requestServedAtOnce : Obligations.RequestServedAtOnce := by
  intro s d d₁ ch w e r m q t hs hn hp advanced granted record
  refine ⟨?_, ?_, ?_⟩
  · rintro rfl ho hh hq hg
    refine (exec_request_granted hs hn hp fun v => claimOutcome_exclusive rfl ho hq hg).trans ?_
    rw [Record.withHolder, hh]
    rfl
  · rintro rfl ho hh hq
    refine (exec_request_granted hs hn hp fun v => claimOutcome_shared rfl ho hq).trans ?_
    rw [Record.withHolder, occupancyOf_shared (by simp)]
    · rfl
    · intro x hx
      rcases List.mem_append.mp hx with hx | hx
      · exact hh x hx
      · rw [List.mem_singleton.mp hx]
  · rintro rfl ⟨h, hh, ha⟩
    rw [exec_request_converted hs hn hp (by simp [hh, ha]), converted_sole hh ha]
    rfl

end

end Sys2Proof.Machine
end

section
/-!
PROOFS. RELEASE, CANCEL, RENEW, CHECK and DOWNGRADE (R36 to R41, R51, R53 to R55, R66, R67).
-/
namespace Sys2Proof.Machine

section
variable {s : State} {d d₁ d' : Device} {ch : Agent} {w : Writes} {e : EntryIx} {r : Record} {c : Cmd} {x : Results}
  {v : Vector Channel 8}

/-! ### What ends or changes a grant or a wait writes -/

theorem endGrant_eq (hr : d.entry e = some r) (a : Agent) : d.endGrant e a = d.putRecord e (r.withoutGrant a) :=
  modifyEntry_eq_putRecord hr _

theorem removeCell_eq (hr : d.entry e = some r) (a : Agent) : d.removeCell e a = d.putRecord e (r.withoutCell a) :=
  modifyEntry_eq_putRecord hr _

theorem channels_handOn (d : Device) (e : EntryIx) : (d.handOn e).channels = d.channels := (onlyEntry_handOn d e).channels

/-- The entry that a record was put in, handed on: the answer of RELEASE, CANCEL and DOWNGRADE. -/
theorem exec_of_handOn (h : StartsOnline s d ch c w d₁) (hn : isControlCommand c = false) {r' : Record}
    (ht : ∀ v, takeOf c ch ((d₁.params ch).latch c) (d₁.withChannels v) =
      done (((d₁.putRecord e r').handOn e).withChannels v) .ok) :
    exec (commandRow c ch w) s =
      .next (s.withDev (((d₁.putRecord e r').handOn e).answered ch c { result := .ok })) :=
  exec_of_online h hn (channels_handOn ..) ht

/-- A command refused at once: its rule answers `code` and leaves the device, whatever the channels hold. -/
theorem exec_of_refused (h : StartsOnline s d ch c w d₁) (hn : isControlCommand c = false) {code : ResultCode}
    (ht : ∀ v, takeOf c ch ((d₁.params ch).latch c) (d₁.withChannels v) = done (d₁.withChannels v) code) :
    exec (commandRow c ch w) s = .next (s.withDev (d₁.answered ch c { result := code })) :=
  exec_of_online h hn rfl ht

/-! ### RELEASE and CANCEL -/

theorem takeRelease_eq {p : Params} (hl : d.lookup p.handle = .ok (e, r)) : takeRelease ch p d =
    if r.heldBy ch then done ((d.putRecord e (r.withoutGrant ch)).handOn e) .ok else done d .notHolder := by
  rw [takeRelease, hl, ← endGrant_eq (lookup_entry hl)]

theorem takeCancel_eq {p : Params} (hl : d.lookup p.handle = .ok (e, r)) : takeCancel ch p d =
    if r.waitedBy ch then done ((d.putRecord e (r.withoutCell ch)).handOn e) .ok else done d .notWaiting := by
  rw [takeCancel, hl, ← removeCell_eq (lookup_entry hl)]

/-- Settles O41: the two commands end a grant and a wait as one write of the record, and hand the entry on. -/
theorem releaseAndCancelHandOn : Obligations.ReleaseAndCancelHandOn := by
  refine ⟨fun s d d₁ ch w e r hs hl => ?_, fun d e => rfl, fun s d d₁ ch w e r hs hl => ?_⟩
  · have ht : ∀ v, takeRelease ch ((d₁.params ch).latch .release) (d₁.withChannels v) = _ := fun v =>
      takeRelease_eq (d := d₁.withChannels v) (p := (d₁.params ch).latch .release) hl
    refine ⟨fun hh => exec_of_handOn hs rfl fun v => (ht v).trans ?_, fun hh => exec_of_refused hs rfl fun v => (ht v).trans ?_⟩
    · rw [if_pos hh, putRecord_withChannels, handOn_withChannels]
    · rw [if_neg (by simp [hh])]
  · have ht : ∀ v, takeCancel ch ((d₁.params ch).latch .cancel) (d₁.withChannels v) = _ := fun v =>
      takeCancel_eq (d := d₁.withChannels v) (p := (d₁.params ch).latch .cancel) hl
    refine ⟨fun hh => exec_of_handOn hs rfl fun v => (ht v).trans ?_, fun hh => exec_of_refused hs rfl fun v => (ht v).trans ?_⟩
    · rw [if_pos hh, putRecord_withChannels, handOn_withChannels]
    · rw [if_neg (by simp [hh])]

/-! ### RENEW and CHECK -/

/-- The record with a new remaining term for the grant of agent `a` (R54). -/
def Record.renewed (r : Record) (a : Agent) (t : Term) : Record :=
  { r with holders := r.holders.map fun h => if h.agent = a then { h with remaining := t } else h }

theorem takeRenew_eq {p : Params} (hl : d.lookup p.handle = .ok (e, r)) {t : Term} (ht : requestedTerm p.term = some t) :
    takeRenew ch p d =
      if r.heldBy ch then
        (d.putRecord e (r.renewed ch (r.grantedTerm t)), some { result := .ok, term := some (r.grantedTerm t) })
      else done d .notHolder := by
  have hm : (d.modifyHolder e ch fun h => { h with remaining := r.grantedTerm t }) =
      d.putRecord e (r.renewed ch (r.grantedTerm t)) := modifyEntry_eq_putRecord (lookup_entry hl) _
  rw [takeRenew, hl]
  simp only [ht, hm]

theorem takeRenew_malformed {p : Params} (hl : d.lookup p.handle = .ok (e, r)) (ht : requestedTerm p.term = none) :
    takeRenew ch p d = done d .badParam := by
  simp [takeRenew, hl, ht]

theorem takeCheck_stale {p : Params} (hl : d.lookup p.handle = .ok (e, r))
    (h : p.ticket = 0 ∨ ∀ x ∈ r.holders, x.ticket ≠ p.ticket) : takeCheck ch p d = done d .stale := by
  rw [takeCheck, hl]
  dsimp only
  split
  · rfl
  · next h0 =>
    have hnone : (r.holders.find? fun x => x.ticket = p.ticket) = none :=
      List.find?_eq_none.mpr fun x hx => by simpa using h.resolve_left h0 x hx
    rw [hnone]

/-- The ticket of one holder record alone names its agent and mode (R41). -/
theorem takeCheck_current {p : Params} (hl : d.lookup p.handle = .ok (e, r)) (h0 : p.ticket ≠ 0) {h : Holder}
    (hh : h ∈ r.holders) (ht : h.ticket = p.ticket) (hu : ∀ h' ∈ r.holders, h'.ticket = p.ticket → h' = h) :
    takeCheck ch p d = (d, some { result := .current, agent := some h.agent, mode := some h.mode }) := by
  have hf : (r.holders.find? fun x => x.ticket = p.ticket) = some h :=
    find?_eq_of_unique hh (by simp [ht]) fun y hy hp => hu y hy (by simpa using hp)
  rw [takeCheck, hl]
  dsimp only
  rw [if_neg h0, hf]

/-- Settles O42: RENEW writes the one remaining term, CHECK reads the holder list. -/
theorem renewAndCheck : Obligations.RenewAndCheck := by
  constructor
  · intro s d d₁ ch w e r hs hl v
    refine ⟨fun hv hu => exec_of_refused hs rfl fun ws => takeRenew_malformed (e := e) (r := r) hl (requestedTerm_bad hv hu),
      fun t ht => ?_⟩
    have take : ∀ ws, takeRenew ch ((d₁.params ch).latch .renew) (d₁.withChannels ws) = _ := fun ws =>
      takeRenew_eq (d := d₁.withChannels ws) (p := (d₁.params ch).latch .renew) hl (requestedTerm_good ht)
    refine ⟨fun hh => exec_of_refused hs rfl fun ws => (take ws).trans (if_neg (by simp [hh])), fun hh => ?_⟩
    exact exec_of_online (d' := d₁.putRecord e (r.renewed ch (termGranted r t))) hs rfl rfl fun ws =>
      (take ws).trans (if_pos hh)
  · intro s d d₁ ch w e r hs hl v
    refine ⟨fun h => exec_of_refused hs rfl fun ws => takeCheck_stale (ch := ch) (e := e) (r := r) hl h, fun h hh ht h0 hu => ?_⟩
    exact exec_of_online hs rfl rfl fun ws => takeCheck_current (ch := ch) (d := d₁.withChannels ws) hl h0 hh ht hu

/-! ### DOWNGRADE -/

/-- The refusals of DOWNGRADE in their order, and the record it hands on (R39, R40). -/
theorem takeDowngrade_eq {p : Params} (hl : d.lookup p.handle = .ok (e, r)) {h : Holder} (hh : r.holder ch = some h) :
    takeDowngrade ch p d =
      if r.sharing = .exclusiveOnly then done d .modeConflict
      else if h.mode = .shared then done d .wrongState
      else done ((d.putRecord e (r.downgraded ch)).handOn e) .ok := by
  have hm : ((d.modifyHolder e ch fun h => { h with mode := .shared }).modifyEntry e fun r => { r with occupancy := .heldS }) =
      d.putRecord e (r.downgraded ch) := by
    have h₁ := modifyEntry_eq_putRecord (lookup_entry hl) fun r =>
      { r with holders := r.holders.map fun h => if h.agent = ch then { h with mode := .shared } else h }
    rw [Device.modifyHolder, h₁, modifyEntry_eq_putRecord ((entry_putRecord ..).trans (if_pos rfl)), putRecord_putRecord]
    rfl
  rw [takeDowngrade, hl]
  simp only [hh, hm]

theorem takeDowngrade_notHolder {p : Params} (hl : d.lookup p.handle = .ok (e, r)) (hh : r.heldBy ch = false) :
    takeDowngrade ch p d = done d .notHolder := by
  have hn : r.holder ch = none := by simpa [Record.heldBy] using hh
  simp [takeDowngrade, hl, hn]

/-- Settles O43. -/
theorem downgradeShares : Obligations.DowngradeShares := by
  intro s d d₁ ch w e r hs hl ends
  refine ⟨fun hh => exec_of_refused hs rfl fun v => takeDowngrade_notHolder (e := e) (r := r) hl hh, fun h hh => ?_⟩
  have ht : ∀ v, takeDowngrade ch ((d₁.params ch).latch .downgrade) (d₁.withChannels v) = _ := fun v =>
    takeDowngrade_eq (d := d₁.withChannels v) (p := (d₁.params ch).latch .downgrade) hl hh
  refine ⟨fun hx => exec_of_refused hs rfl fun v => (ht v).trans (if_pos hx), fun hsh hm => ?_, fun hsh hm => ?_⟩
  · exact exec_of_refused hs rfl fun v => (ht v).trans (by rw [if_neg (by simp [hsh]), if_pos hm])
  · refine exec_of_handOn (r' := r.downgraded ch) hs rfl fun v => (ht v).trans ?_
    rw [if_neg (by simp [hsh]), if_neg (by simp [hm]), putRecord_withChannels, handOn_withChannels]

end

end Sys2Proof.Machine
end

section
/-!
PROOFS. What a departure does to every record and to every other agent (R133, R138, R139), from any state of the records.
-/
namespace Sys2Proof.Machine

/-! ### Records handed on -/

/-- From `r` to `r'` the record changes in its holders, queue and occupancy alone. An agent outside `as` keeps what it holds, and
waits on or holds what it waited for; an agent that does not wait is given no cell, nor a grant unless it is ONLINE. -/
structure Record.Passes (as : List Agent) (d : Device) (r r' : Record) : Prop where
  frame : { r' with holders := r.holders, queue := r.queue, occupancy := r.occupancy } = r
  held : ∀ a, a ∉ as → r.heldBy a = true → r'.heldBy a = true
  waited : ∀ a, a ∉ as → r.waitedBy a = true → r'.heldBy a = true ∨ r'.waitedBy a = true
  unwaited : ∀ a, r.waitedBy a = false → r'.waitedBy a = false
  unheld : ∀ a, (d.agent a).state ≠ .online → r.waitedBy a = false → r.heldBy a = false → r'.heldBy a = false

/-- From `d` to `d'` every record is handed on, and a slot goes FREE only where its entry is RETIRING. -/
structure Device.Passes (as : List Agent) (d d' : Device) : Prop where
  agents : d'.agents = d.agents
  records : ∀ e r', d'.entry e = some r' → ∃ r, d.entry e = some r ∧ r.Passes as d r' ∧
    (d'.slot e).generation = (d.slot e).generation
  drained : ∀ e r, d.entry e = some r → d'.entry e = none → r.lifecycle ≠ .live

section
variable {as : List Agent} {d d' d'' : Device} {e : EntryIx} {r r' r'' : Record} {a : Agent} {c : WaitCell}

namespace Record.Passes

theorem refl (as : List Agent) (d : Device) (r : Record) : r.Passes as d r :=
  ⟨rfl, fun _ _ h => h, fun _ _ h => .inr h, fun _ h => h, fun _ _ _ h => h⟩

theorem trans (h : r.Passes as d r') (h' : r'.Passes as d r'') : r.Passes as d r'' where
  frame := by
    have h₁ := h.frame
    rw [← h'.frame] at h₁
    exact h₁
  held a ha hh := h'.held a ha (h.held a ha hh)
  waited a ha hw := (h.waited a ha hw).elim (fun hh => .inl (h'.held a ha hh)) (h'.waited a ha)
  unwaited a hw := h'.unwaited a (h.unwaited a hw)
  unheld a ho hw hh := h'.unheld a ho (h.unwaited a hw) (h.unheld a ho hw hh)

theorem congr (h : r.Passes as d r') (ha : d'.agents = d.agents) : r.Passes as d' r' :=
  ⟨h.frame, h.held, h.waited, h.unwaited, fun a ho => h.unheld a (agent_of_agents ha a ▸ ho)⟩

theorem lifecycle (h : r.Passes as d r') : r'.lifecycle = r.lifecycle := (congrArg Record.lifecycle h.frame :)
theorem group (h : r.Passes as d r') : r'.group = r.group := (congrArg Record.group h.frame :)

/-- Holders and cells changed one by one, with their agents kept. -/
theorem map {f : Holder → Holder} {k : WaitCell → WaitCell} (hf : ∀ x, (f x).agent = x.agent) (hk : ∀ x, (k x).agent = x.agent)
    (o : Occupancy) :
    r.Passes as d { r with holders := r.holders.map f, queue := r.queue.map k, occupancy := o } := by
  have hh : ∀ a, ({ r with holders := r.holders.map f, queue := r.queue.map k, occupancy := o } : Record).heldBy a = r.heldBy a :=
    fun a => Bool.eq_iff_iff.mpr (by rw [heldBy_iff, heldBy_iff]; simp [Function.comp_def, hf])
  have hw : ∀ a, ({ r with holders := r.holders.map f, queue := r.queue.map k, occupancy := o } : Record).waitedBy a = r.waitedBy a :=
    fun a => Bool.eq_iff_iff.mpr (by rw [waitedBy_iff, waitedBy_iff]; simp [Function.comp_def, hk])
  exact ⟨rfl, fun a _ h => (hh a).trans h, fun a _ h => .inr ((hw a).trans h), fun a h => (hw a).trans h,
    fun a _ _ h => (hh a).trans h⟩

/-- A new holder that is ONLINE, or has had a part in the entry. -/
theorem withHolder {h : Holder}
    (hh : (d.agent h.agent).state = .online ∨ r.waitedBy h.agent = true ∨ r.heldBy h.agent = true) :
    r.Passes as d (r.withHolder h) where
  frame := rfl
  held a _ ha := by
    rw [heldBy_iff] at ha ⊢
    simp only [Record.withHolder, List.map_append]
    exact List.mem_append_left _ ha
  waited a _ hw := .inr hw
  unwaited a hw := hw
  unheld a ho hw ha := heldBy_withHolder ha <| by
    rintro rfl
    rcases hh with h | h | h
    · exact ho h
    · rw [hw] at h; cases h
    · rw [ha] at h; cases h

/-- The cells of an agent that departs are removed. -/
theorem withoutCell (ha : a ∈ as) : r.Passes as d (r.withoutCell a) where
  frame := rfl
  held _ _ hh := hh
  waited b hb hw := by
    refine .inr (waitedBy_iff.mpr ?_)
    obtain ⟨c, hc, rfl⟩ := List.mem_map.mp (waitedBy_iff.mp hw)
    refine List.mem_map.mpr ⟨c, List.mem_filter.mpr ⟨hc, ?_⟩, rfl⟩
    simpa using fun hca : c.agent = a => hb (hca ▸ ha)
  unwaited b hw := waitedBy_eq_false.mpr fun c hc => waitedBy_eq_false.mp hw c (List.mem_of_mem_filter hc)
  unheld _ _ _ hh := hh

/-- The grant of an agent that departs ends. -/
theorem withoutGrant (ha : a ∈ as) : r.Passes as d (r.withoutGrant a) where
  frame := rfl
  held b hb hh := by
    obtain ⟨h, hm, rfl⟩ := List.mem_map.mp (heldBy_iff.mp hh)
    refine heldBy_iff.mpr (List.mem_map.mpr ⟨h, List.mem_filter.mpr ⟨hm, ?_⟩, rfl⟩)
    simpa using fun hha : h.agent = a => hb (hha ▸ ha)
  waited b hb hw := by
    refine .inr (waitedBy_iff.mpr ?_)
    obtain ⟨c, hc, rfl⟩ := List.mem_map.mp (waitedBy_iff.mp hw)
    refine List.mem_map.mpr ⟨c, List.mem_filter.mpr ⟨hc, ?_⟩, rfl⟩
    exact decide_eq_true fun hca => hb (hca.1 ▸ ha)
  unwaited b hw := waitedBy_eq_false.mpr fun c hc => waitedBy_eq_false.mp hw c (List.mem_of_mem_filter hc)
  unheld b _ _ hh := heldBy_eq_false.mpr fun h hm => heldBy_eq_false.mp hh h (List.mem_of_mem_filter hm)

/-- A grant from a cell whose agent waits, or holds the entry already (R76). -/
theorem grant (hc : r.heldBy c.agent = true ∨ r.waitedBy c.agent = true) (t : Ticket) : r.Passes as d (r.grant c t) where
  frame := rfl
  held a _ ha := by
    rw [heldBy_iff] at ha ⊢
    simp only [Record.grant, Record.withHolder, Record.withoutCell, List.map_append]
    exact List.mem_append_left _ ha
  waited a _ hw := by
    by_cases hac : a = c.agent
    · refine .inl (heldBy_iff.mpr ?_)
      simp [Record.grant, Record.withHolder, WaitCell.granted, hac]
    · refine .inr (waitedBy_iff.mpr ?_)
      obtain ⟨x, hx, rfl⟩ := List.mem_map.mp (waitedBy_iff.mp hw)
      exact List.mem_map.mpr ⟨x, List.mem_filter.mpr ⟨hx, by simpa using hac⟩, rfl⟩
  unwaited b hw := waitedBy_eq_false.mpr fun x hx => waitedBy_eq_false.mp hw x (List.mem_of_mem_filter hx)
  unheld a _ hw ha := heldBy_withHolder (r := r.withoutCell c.agent) ha <| by
    rintro rfl
    rcases hc with h | h
    · rw [show r.heldBy c.agent = false from ha] at h; cases h
    · rw [show r.waitedBy c.agent = false from hw] at h; cases h

/-- The conversion of the sole holder, its cell removed (R71). -/
theorem upgrade (ha : r.holders.map (·.agent) = [a]) (t : Ticket) (p : Priority) (m : Term) :
    r.Passes as d ((r.withoutCell a).converted a t p m) := by
  have hh : ∀ b, ((r.withoutCell a).converted a t p m).heldBy b = r.heldBy b := fun b =>
    Bool.eq_iff_iff.mpr (by rw [heldBy_iff, heldBy_iff, holders_converted_agent]; rfl)
  refine ⟨rfl, fun b _ h => (hh b).trans h, fun b _ hw => ?_, fun b hw => ?_, fun b _ _ h => (hh b).trans h⟩
  · by_cases hb : b = a
    · exact .inl ((hh b).trans (heldBy_iff.mpr (by rw [ha, hb]; exact List.mem_singleton_self a)))
    · refine .inr (waitedBy_iff.mpr ?_)
      obtain ⟨x, hx, rfl⟩ := List.mem_map.mp (waitedBy_iff.mp hw)
      exact List.mem_map.mpr ⟨x, List.mem_filter.mpr ⟨hx, by simpa using hb⟩, rfl⟩
  · exact waitedBy_eq_false.mpr fun x hx => waitedBy_eq_false.mp hw x (List.mem_of_mem_filter hx)

end Record.Passes

namespace Device.Passes

theorem of_slots (hs : d'.slots = d.slots) (ha : d'.agents = d.agents) : d.Passes as d' where
  agents := ha
  records e r' hr := ⟨r', by rw [← entry_of_slots hs, hr], .refl as d r', by unfold Device.slot; rw [hs]⟩
  drained e r hr hn := by rw [entry_of_slots hs, hr] at hn; cases hn

theorem refl (as : List Agent) (d : Device) : d.Passes as d := of_slots rfl rfl

theorem trans (h : d.Passes as d') (h' : d'.Passes as d'') : d.Passes as d'' where
  agents := h'.agents.trans h.agents
  records e r'' hr'' := by
    obtain ⟨r', hr', hp', hg'⟩ := h'.records e r'' hr''
    obtain ⟨r, hr, hp, hg⟩ := h.records e r' hr'
    exact ⟨r, hr, hp.trans (hp'.congr h.agents.symm), hg'.trans hg⟩
  drained e r hr hn := by
    cases hr' : d'.entry e with
    | none => exact h.drained e r hr hr'
    | some r' =>
      obtain ⟨r₀, hr₀, hp, -⟩ := h.records e r' hr'
      rw [hr] at hr₀
      cases hr₀
      exact hp.lifecycle ▸ h'.drained e r' hr' hn

/-- One record replaced. -/
theorem of_record (hp : r.Passes as d r') (hr : d.entry e = some r) (he : d'.entry e = some r')
    (hx : ∀ x, x ≠ e → d'.slot x = d.slot x) (hg : (d'.slot e).generation = (d.slot e).generation)
    (ha : d'.agents = d.agents) : d.Passes as d' where
  agents := ha
  records x s hs := by
    by_cases h : x = e
    · subst h
      rw [he] at hs
      cases hs
      exact ⟨r, hr, hp, hg⟩
    · have : d'.entry x = d.entry x := by unfold Device.entry; rw [hx x h]
      exact ⟨s, this ▸ hs, .refl as d s, by rw [hx x h]⟩
  drained x s hs hn := by
    by_cases h : x = e
    · subst h; rw [he] at hn; cases hn
    · have : d'.entry x = d.entry x := by unfold Device.entry; rw [hx x h]
      rw [this, hs] at hn
      cases hn

theorem of_replaces (h : Replaces e r r' d d') (hp : r.Passes as d r') : d.Passes as d' :=
  of_record hp h.before h.entry_same
    (fun x hx => by
      have hs : d'.slots = (d.putRecord e r').slots := by rw [h.after]
      unfold Device.slot
      rw [hs, Device.putRecord_slots, tget_tset_ne _ _ hx])
    (h.generation e) h.agents

theorem modifyEntry {f : Record → Record} (hf : ∀ r, d.entry e = some r → r.Passes as d (f r)) :
    d.Passes as (d.modifyEntry e f) := by
  cases hr : d.entry e with
  | none => rw [modifyEntry_free hr]; exact .refl as d
  | some r => exact .of_replaces (.modifyEntry hr f) (hf r hr)

theorem removeCell (ha : a ∈ as) : d.Passes as (d.removeCell e a) :=
  .modifyEntry (f := (·.withoutCell a)) fun _ _ => .withoutCell ha

theorem endGrant (ha : a ∈ as) : d.Passes as (d.endGrant e a) :=
  .modifyEntry (f := (·.withoutGrant a)) fun _ _ => .withoutGrant ha

theorem post (as : List Agent) (d : Device) (e : EntryIx) (a : Agent) (k : NoticeKind) : d.Passes as (d.post e a k) :=
  .of_slots (post_slots ..) (post_agents ..)

theorem evaluate (as : List Agent) (d : Device) (e : EntryIx) : d.Passes as (d.evaluate e) := by
  obtain ⟨f, hs, hf⟩ := entry_evaluate d e
  have h : d.Passes as (d.modifyEntry e f) := .modifyEntry fun r _ => by
    obtain ⟨k, hk, hc⟩ := hf r
    have := Record.Passes.map (as := as) (d := d) (r := r) (f := k) (k := id) (fun x => (Prod.mk.inj (hc x)).1) (fun _ => rfl)
      r.occupancy
    rw [List.map_id] at this
    rw [hk]
    exact this
  exact h.trans (.of_slots hs (onlyEntry_evaluate d e).agents)

/-! ### The grant decision and the drain -/

theorem grantQueued (hr : d.entry e = some r) (hc : r.heldBy c.agent = true ∨ r.waitedBy c.agent = true) :
    d.Passes as (d.grantQueued e c) :=
  (of_replaces (replaces_grantCell hr c) (.grant hc _)).trans (.post ..)

/-- Cells granted one after another, each of an agent that waits or, by now, holds the entry. -/
theorem shares (l : List WaitCell) {d : Device} {r : Record} (hr : d.entry e = some r)
    (hl : ∀ c ∈ l, r.heldBy c.agent = true ∨ r.waitedBy c.agent = true) :
    d.Passes as (l.foldl (fun d c => d.grantQueued e c) d) := by
  induction l generalizing d r with
  | nil => exact .refl as d
  | cons c l ih =>
    have hg : r.Passes [] d (r.grant c d.ticket) := .grant (hl c (by simp)) _
    refine (grantQueued hr (hl c (by simp))).trans (ih (entry_grantQueued hr c) fun x hx => ?_)
    rcases hl x (by simp [hx]) with h | h
    · exact .inl (hg.held x.agent (by simp) h)
    · exact hg.waited x.agent (by simp) h

theorem startSwitch (as : List Agent) (hr : d.entry e = some r) (g : GroupIx) (t : SwitchTarget) :
    d.Passes as (d.startSwitch e g t) := by
  cases hb : (d.group g).binding with
  | none => rw [Device.startSwitch, hb]; exact .refl as d
  | some b =>
    rw [startSwitch_eq_starting hb hr]
    have hp : r.Passes as d (r.startingSwitch t) := by
      rw [startingSwitch_eq]
      exact .map (fun _ => rfl) (agent_flagged t) _
    have hrep : Replaces e r (r.startingSwitch t) d (d.putRecord e (r.startingSwitch t)) := ⟨hr, rfl, .inl rfl⟩
    exact (of_replaces hrep hp).trans (.of_slots rfl rfl)

theorem decideIdle (as : List Agent) (hr : d.entry e = some r) : d.Passes as (d.decideIdle e r) := by
  unfold Device.decideIdle
  split
  · exact .refl as d
  · split
    · split
      · exact startSwitch as hr ..
      · exact .refl as d
    · split
      · next hb =>
        obtain ⟨he, hboot⟩ := Bool.and_eq_true_iff.mp hb
        have he : e = 0 := of_decide_eq_true he
        subst he
        have ho : d.Online d.boot := of_decide_eq_true (Bool.and_eq_true_iff.mp hboot).1
        exact (of_replaces (replaces_newGrant hr ..) (.withHolder (.inl ho))).trans (.post ..)
      · exact .refl as d

theorem decideUpgrade (as : List Agent) (hr : d.entry e = some r) (c : WaitCell) : d.Passes as (d.decideUpgrade e r c) := by
  unfold Device.decideUpgrade
  split
  · next ha => exact (of_replaces (replaces_upgrade hr ..) (.upgrade ha ..)).trans (.post ..)
  · exact .refl as d

theorem decideExclusive (as : List Agent) (hr : d.entry e = some r) (hc : c ∈ r.queue) : d.Passes as (d.decideExclusive e r c) := by
  have hg : d.Passes as (d.grantQueued e c) := grantQueued hr (.inr (waitedBy_iff.mpr (List.mem_map_of_mem hc)))
  unfold Device.decideExclusive
  split
  · exact .refl as d
  · split
    · exact hg
    · split
      · exact hg
      · exact startSwitch as hr ..

theorem decideShared (as : List Agent) (hr : d.entry e = some r) : d.Passes as (d.decideShared e r) := by
  unfold Device.decideShared
  split
  · exact .refl as d
  · exact shares _ hr fun c hc => .inr (waitedBy_iff.mpr (List.mem_map_of_mem (mem_takeWhile_shared hc).1))

theorem grantDecision (as : List Agent) (d : Device) (e : EntryIx) : d.Passes as (d.grantDecision e) := by
  unfold Device.grantDecision
  split
  · exact .refl as d
  · next r hr =>
    split
    · split
      · exact decideIdle as hr
      · next c q hq =>
        split
        · exact decideUpgrade as hr c
        · exact decideExclusive as hr (by rw [hq]; exact List.mem_cons_self)
        · exact decideShared as hr
    · exact .refl as d

theorem drain (hr : d.entry e = some r) (hl : r.lifecycle ≠ .live) (q : Agent) : d.Passes as (d.drain e r q) where
  agents := (onlyEntry_drain d e hr q).agents
  records x s hs := by
    by_cases h : x = e
    · subst h; rw [entry_drain] at hs; cases hs
    · have hx := (onlyEntry_drain d e hr q).slots x h
      exact ⟨s, by rw [← hs]; unfold Device.entry; rw [hx], .refl as d s, by rw [hx]⟩
  drained x s hs hn := by
    by_cases h : x = e
    · subst h; rw [hr] at hs; cases hs; exact hl
    · have hx := (onlyEntry_drain d e hr q).reaches.entry h
      rw [hx, hs] at hn
      cases hn

theorem checkDrain (as : List Agent) (d : Device) (e : EntryIx) : d.Passes as (d.checkDrain e) := by
  unfold Device.checkDrain
  split
  · exact .refl as d
  · next r hr =>
    split
    · exact .refl as d
    · next hl =>
      split
      · exact drain hr (by simp [hl]) _
      · exact .refl as d

/-! ### The departure of one agent from one entry -/

theorem departWait (ha : a ∈ as) (d : Device) (e : EntryIx) : d.Passes as (d.departWait e a) := by
  rcases departWait_cases d e a with ⟨h, -⟩ | ⟨r, c, -, -, h⟩ <;> rw [h]
  · exact .refl as d
  · exact ((of_slots (slots_abortFlight ..) (reaches_abortFlight d e a c.priority).agents).trans (removeCell ha)).trans
      (grantDecision ..)

theorem departHold (ha : a ∈ as) (d : Device) (e : EntryIx) : d.Passes as (d.departHold e a) := by
  rcases departHold_cases d e a with ⟨h, -⟩ | ⟨r, -, -, h⟩ <;> rw [h]
  · exact .refl as d
  · exact ((endGrant ha).trans (grantDecision ..)).trans (checkDrain ..)

theorem waitlessOn (h : d.Passes as d') (hw : d.WaitlessOn a e) : d'.WaitlessOn a e := by
  intro hst r' hr'
  obtain ⟨r, hr, hp, -⟩ := h.records e r' hr'
  exact hp.unwaited a (hw (agent_of_agents h.agents a ▸ hst) r hr)

theorem absentOn (h : d.Passes as d') (hw : d.WaitlessOn a e) (hh : d.AbsentOn a e) : d'.AbsentOn a e := by
  intro hst r' hr'
  obtain ⟨r, hr, hp, -⟩ := h.records e r' hr'
  rw [agent_of_agents h.agents a] at hst
  have ho := ne_online_of_absent hst
  exact hp.unheld a ho (hw ho r hr) (hh hst r hr)

/-- A fold over departing agents of operations that hand the records on: what each brings about for its own agent, and what goes
on, holds for every agent of the list at the end. -/
theorem foldl {f : Device → Agent → Device} (hf : ∀ (d : Device) a, a ∈ as → d.Passes as (f d a)) {P Q : Device → Agent → Prop}
    (hP : ∀ d a, Q d a → P (f d a) a) (hk : ∀ (d d' : Device) a, d.Passes as d' → P d a → P d' a)
    (hQ : ∀ (d d' : Device) a, d.Passes as d' → Q d a → Q d' a) (l : List Agent) (hl : ∀ a ∈ l, a ∈ as) (d : Device)
    (hq : ∀ a ∈ l, Q d a) : d.Passes as (l.foldl f d) ∧ ∀ a ∈ l, P (l.foldl f d) a := by
  induction l generalizing d with
  | nil => exact ⟨.refl as d, fun _ h => by cases h⟩
  | cons b l ih =>
    have h₁ := hf d b (hl b (by simp))
    obtain ⟨h₂, hp⟩ := ih (fun a ha => hl a (by simp [ha])) (f d b) fun a ha => hQ _ _ a h₁ (hq a (by simp [ha]))
    refine ⟨h₁.trans h₂, fun a ha => ?_⟩
    rcases List.mem_cons.mp ha with rfl | ha
    · exact hk _ _ a h₂ (hP d a (hq a (by simp)))
    · exact hp a ha

end Device.Passes

/-! ### One entry left -/

theorem waitless_after_departWait (d : Device) (e : EntryIx) (a : Agent) : (d.departWait e a).WaitlessOn a e := by
  rcases departWait_cases d e a with ⟨h, hn⟩ | ⟨r, c, -, -, h⟩ <;> rw [h]
  · exact fun _ => hn
  · refine (Device.Passes.grantDecision [] _ e).waitlessOn fun _ s hs => ?_
    rw [Device.removeCell, Device.entry_modifyEntry, if_pos rfl] at hs
    obtain ⟨r₀, -, rfl⟩ := Option.map_eq_some_iff.mp hs
    exact waitedBy_withoutCell r₀ a

theorem absent_after_departHold (hw : d.WaitlessOn a e) : (d.departHold e a).AbsentOn a e := by
  rcases departHold_cases d e a with ⟨h, hn⟩ | ⟨r, -, -, h⟩ <;> rw [h]
  · exact fun _ => hn
  · refine ((Device.Passes.grantDecision [a] _ e).trans (.checkDrain ..)).absentOn
      ((Device.Passes.endGrant (List.mem_singleton_self a)).waitlessOn hw) fun _ s hs => ?_
    rw [Device.endGrant, Device.entry_modifyEntry, if_pos rfl] at hs
    obtain ⟨r₀, -, rfl⟩ := Option.map_eq_some_iff.mp hs
    exact heldBy_withoutGrant r₀ a

theorem concerns_eq_false : d.concerns e a = false ↔ ∀ r, d.entry e = some r → r.heldBy a = false ∧ r.waitedBy a = false := by
  unfold Device.concerns
  cases d.entry e with
  | none => simp
  | some r => simp

/-- An entry that concerns no departing agent is left as it is. -/
theorem departEntry_unconcerned (h : ∀ a ∈ as, d.concerns e a = false) : d.departEntry as e = d := by
  unfold Device.departEntry
  rw [if_neg]
  rw [List.any_eq_true]
  rintro ⟨a, ha, hc⟩
  rw [h a ha] at hc
  cases hc

/-- The work of a departure on one entry hands the records on, and no departing agent has a part in the entry after it. -/
theorem passes_departEntry (as : List Agent) (d : Device) (e : EntryIx) :
    d.Passes as (d.departEntry as e) ∧ ∀ a ∈ as, (d.departEntry as e).WaitlessOn a e ∧ (d.departEntry as e).AbsentOn a e := by
  by_cases hc : ∀ a ∈ as, d.concerns e a = false
  · rw [departEntry_unconcerned hc]
    refine ⟨.refl as d, fun a ha => ?_⟩
    have := concerns_eq_false.mp (hc a ha)
    exact ⟨fun _ r hr => (this r hr).2, fun _ r hr => (this r hr).1⟩
  · obtain ⟨hw, hwaitless⟩ := Device.Passes.foldl (as := as) (f := fun d a => d.departWait e a) (fun d a ha => .departWait ha d e)
      (P := fun d a => d.WaitlessOn a e) (Q := fun _ _ => True) (fun d a _ => waitless_after_departWait d e a)
      (fun _ _ _ h => h.waitlessOn) (fun _ _ _ _ => id) as (fun _ h => h) d fun _ _ => trivial
    obtain ⟨hh, hgone⟩ := Device.Passes.foldl (as := as) (f := fun d a => d.departHold e a) (fun d a ha => .departHold ha d e)
      (P := fun d a => d.WaitlessOn a e ∧ d.AbsentOn a e) (Q := fun d a => a ∈ as ∧ d.WaitlessOn a e)
      (fun d a h => ⟨(Device.Passes.departHold h.1 d e).waitlessOn h.2, absent_after_departHold h.2⟩)
      (fun _ _ _ h hp => ⟨h.waitlessOn hp.1, h.absentOn hp.1 hp.2⟩) (fun _ _ _ h hq => ⟨hq.1, h.waitlessOn hq.2⟩) as
      (fun _ h => h) _ fun a ha => ⟨ha, hwaitless a ha⟩
    have he := Device.Passes.evaluate as (as.foldl (fun d a => d.departHold e a) (as.foldl (fun d a => d.departWait e a) d)) e
    have heq : d.departEntry as e =
        (as.foldl (fun d a => d.departHold e a) (as.foldl (fun d a => d.departWait e a) d)).evaluate e := by
      unfold Device.departEntry
      rw [if_pos]
      by_contra hn
      refine hc fun a ha => ?_
      by_contra hca
      exact hn (List.any_eq_true.mpr ⟨a, ha, by simpa using hca⟩)
    rw [heq]
    exact ⟨(hw.trans hh).trans he, fun a ha =>
      ⟨he.waitlessOn (hgone a ha).1, he.absentOn (hgone a ha).1 (hgone a ha).2⟩⟩

end

end Sys2Proof.Machine
end

section
/-!
PROOFS. What a departure leaves unchanged, and a departure as a whole as `Departed` has it (R133, R138, R139).
-/
namespace Sys2Proof.Machine

section
variable {as : List Agent} {d d' d'' x : Device} {e : EntryIx} {r : Record} {a : Agent} {l l' : List EntryIx} {dest : Roster}

/-! ### One entry and the channels -/

/-- From `d` to `d'` at most entry `e` and what belongs to it, the ticket counter and the channels have changed. -/
def LeavesElse (e : EntryIx) (d d' : Device) : Prop := OnlyEntry e d (d'.withChannels d.channels)

theorem OnlyEntry.withChannels (h : OnlyEntry e d d') (v : Vector Channel 8) :
    OnlyEntry e (d.withChannels v) (d'.withChannels v) :=
  ⟨h.slots, h.notices, h.groups, h.steered, h.agents, rfl, h.boot, h.config, h.tickPhase, h.tickPeriod, h.issued, h.cmdReset,
    h.recorded, h.reclaimLeft⟩

theorem OnlyEntry.leavesElse (h : OnlyEntry e d d') : LeavesElse e d d' := h.withChannels d.channels

namespace LeavesElse

theorem refl (e : EntryIx) (d : Device) : LeavesElse e d d := (OnlyEntry.refl e d).leavesElse

theorem trans (h : LeavesElse e d d') (h' : LeavesElse e d' d'') : LeavesElse e d d'' :=
  OnlyEntry.trans h (OnlyEntry.withChannels h' d.channels)

theorem foldl {α : Type} {f : Device → α → Device} (hf : ∀ d x, LeavesElse e d (f d x)) (l : List α) (d : Device) :
    LeavesElse e d (l.foldl f d) := by
  induction l generalizing d with
  | nil => exact refl e d
  | cons x l ih => exact (hf d x).trans (ih _)

theorem departWait (d : Device) (e : EntryIx) (a : Agent) : LeavesElse e d (d.departWait e a) := by
  rcases departWait_cases d e a with ⟨h, -⟩ | ⟨r, c, -, -, h⟩ <;> rw [h]
  · exact refl e d
  · have habort : LeavesElse e d (d.abortFlight e a c.priority) := by
      unfold Device.abortFlight
      split <;> exact refl e d
    exact habort.trans ((onlyEntry_removeCell ..).trans (onlyEntry_grantDecision ..)).leavesElse

theorem departHold (d : Device) (e : EntryIx) (a : Agent) : LeavesElse e d (d.departHold e a) := by
  rcases departHold_cases d e a with ⟨h, -⟩ | ⟨r, -, -, h⟩ <;> rw [h]
  · exact refl e d
  · exact (((onlyEntry_endGrant ..).trans (onlyEntry_grantDecision ..)).trans (onlyEntry_checkDrain ..)).leavesElse

theorem departEntry (as : List Agent) (d : Device) (e : EntryIx) : LeavesElse e d (d.departEntry as e) := by
  unfold Device.departEntry
  split
  · exact ((foldl (fun d a => departWait d e a) as d).trans (foldl (fun d a => departHold d e a) as _)).trans
      (onlyEntry_evaluate ..).leavesElse
  · exact refl e d

end LeavesElse

/-! ### The entries of a list left -/

/-- The agents `as` have left the entries of `l` between `d` and `x`, and nothing else has changed than the entries that concern
them, their groups, the ticket counter and the channels. -/
structure Leaving (as : List Agent) (l : List EntryIx) (d x : Device) : Prop where
  passes : d.Passes as x
  gone : ∀ a ∈ as, ∀ e ∈ l, x.WaitlessOn a e ∧ x.AbsentOn a e
  untouched : ∀ e, (∀ a ∈ as, d.concerns e a = false) → x.slot e = d.slot e ∧ ∀ a, x.notice e a = d.notice e a
  groups : ∀ g, (∀ e r, d.entry e = some r → r.group = some g → ∀ a ∈ as, d.concerns e a = false) → x.group g = d.group g
  board : SameBoard d x
  tickPhase : x.tickPhase = d.tickPhase
  tickPeriod : x.tickPeriod = d.tickPeriod

namespace Leaving

theorem refl (as : List Agent) (d : Device) : Leaving as [] d d :=
  ⟨.refl as d, fun _ _ _ h => absurd h List.not_mem_nil, fun _ _ => ⟨rfl, fun _ => rfl⟩, fun _ _ => rfl, .refl d, rfl, rfl⟩

theorem advanceTicket (as : List Agent) (d : Device) : Leaving as [] d d.advanceTicket :=
  ⟨.of_slots rfl rfl, fun _ _ _ h => absurd h List.not_mem_nil, fun _ _ => ⟨rfl, fun _ => rfl⟩, fun _ _ => rfl, sameBoard_advanceTicket d,
    rfl, rfl⟩

/-- An entry that concerned no departing agent still concerns none. -/
theorem unconcerned (h : Leaving as l d x) (hc : ∀ a ∈ as, d.concerns e a = false) : ∀ a ∈ as, x.concerns e a = false := by
  intro a ha
  have he : x.entry e = d.entry e := by unfold Device.entry; rw [(h.untouched e hc).1]
  rw [← hc a ha]
  unfold Device.concerns
  rw [he]

theorem trans (h : Leaving as l d x) (h' : Leaving as l' x d'') : Leaving as (l ++ l') d d'' where
  passes := h.passes.trans h'.passes
  gone a ha e he := by
    rcases List.mem_append.mp he with he | he
    · obtain ⟨hw, hb⟩ := h.gone a ha e he
      exact ⟨h'.passes.waitlessOn hw, h'.passes.absentOn hw hb⟩
    · exact h'.gone a ha e he
  untouched e hc := by
    obtain ⟨hs, hn⟩ := h.untouched e hc
    obtain ⟨hs', hn'⟩ := h'.untouched e (h.unconcerned hc)
    exact ⟨hs'.trans hs, fun a => (hn' a).trans (hn a)⟩
  groups g hg := by
    refine (h'.groups g fun e r hr hrg => ?_).trans (h.groups g hg)
    obtain ⟨r₀, hr₀, hp, -⟩ := h.passes.records e r hr
    exact h.unconcerned (hg e r₀ hr₀ (hp.group ▸ hrg))
  board := h.board.trans h'.board
  tickPhase := h'.tickPhase.trans h.tickPhase
  tickPeriod := h'.tickPeriod.trans h.tickPeriod

theorem departEntry (as : List Agent) (d : Device) (e : EntryIx) : Leaving as [e] d (d.departEntry as e) := by
  obtain ⟨hp, hgone⟩ := passes_departEntry as d e
  by_cases hc : ∀ a ∈ as, d.concerns e a = false
  · rw [departEntry_unconcerned hc] at hgone ⊢
    exact { refl as d with gone := fun a ha y hy => List.mem_singleton.mp hy ▸ hgone a ha }
  · have hl := LeavesElse.departEntry as d e
    have hne : ∀ y, (∀ a ∈ as, d.concerns y a = false) → y ≠ e := fun y hy h => hc (h ▸ hy)
    exact
      { passes := hp
        gone := fun a ha y hy => List.mem_singleton.mp hy ▸ hgone a ha
        untouched := fun y hy => ⟨hl.slots y (hne y hy), hl.notices y (hne y hy)⟩
        groups := fun g hg => hl.groups g fun r hr hrg => hc (hg e r hr hrg)
        board := (reaches_departEntry as d e).board
        tickPhase := hl.tickPhase
        tickPeriod := hl.tickPeriod }

theorem departEntries (as : List Agent) (l : List EntryIx) (d : Device) : Leaving as l d (d.departEntries as l) := by
  induction l generalizing d with
  | nil => exact refl as d
  | cons e l ih => exact (departEntry as d e).trans (ih _)

end Leaving

/-! ### The departure as a whole -/

/-- The end of a departure: notices cleared, the agents in their new state, the window closed where nobody is REJOINING. -/
def Device.departedTo (x : Device) (as : List Agent) (dest : Roster) : Device := ((x.clearNotices as).setRosters as dest).closeWindow

theorem departedTo_eq (x : Device) (as : List Agent) (dest : Roster) : x.departedTo as dest =
    { x with
      notices := (x.clearNotices as).notices
      agents := ((x.clearNotices as).setRosters as dest).agents
      reclaimLeft := (x.departedTo as dest).reclaimLeft } := by
  rw [Device.departedTo, closeWindow_eq, setRosters_eq, clearNotices_eq]

theorem notice_clearNotices_ne (ha : a ∉ as) (d : Device) (e : EntryIx) : (d.clearNotices as).notice e a = d.notice e a := by
  unfold Device.clearNotices
  induction as generalizing d with
  | nil => rfl
  | cons b as ih =>
    rw [List.foldl_cons, ih (fun h => ha (by simp [h])), notice_clearAgentNotices, if_neg]
    rintro rfl
    exact ha (by simp)

theorem agents_clearNotices (d : Device) (as : List Agent) : (d.clearNotices as).agents = d.agents := by rw [clearNotices_eq]

/-- The reclaim countdown goes on while some agent is REJOINING (R177). -/
theorem reclaimLeft_closeWindow (d : Device) : d.closeWindow.reclaimLeft =
    if ∃ a, (d.agent a).state = .rejoining then d.reclaimLeft else none := by
  have hany : (allAgents.any fun a => (d.agent a).state = .rejoining) = true ↔ ∃ a, (d.agent a).state = .rejoining := by
    simp [allAgents, List.any_eq_true]
  unfold Device.closeWindow
  by_cases h : ∃ a, (d.agent a).state = .rejoining
  · rw [if_pos (hany.mpr h), if_pos h]
  · rw [if_neg (hany.not.mpr h), if_neg h]

theorem notice_departedTo (x : Device) (as : List Agent) (dest : Roster) (e : EntryIx) (a : Agent) :
    (x.departedTo as dest).notice e a = (x.clearNotices as).notice e a := by
  rw [departedTo_eq]; rfl

theorem slots_departedTo (x : Device) (as : List Agent) (dest : Roster) : (x.departedTo as dest).slots = x.slots := by
  rw [departedTo_eq]

theorem agent_departedTo (x : Device) (as : List Agent) (dest : Roster) (a : Agent) :
    (x.departedTo as dest).agent a = if a ∈ as then { x.agent a with state := dest } else x.agent a := by
  rw [Device.departedTo, agent_of_agents (agents_closeWindow _), agent_setRosters, agent_of_agents (agents_clearNotices x as)]

/-- Agents whose channels are not IN_FLIGHT have departed, when they have left every entry (R138, R139). -/
theorem departed_of_leaving (h : Leaving as allEntries (d.setRosters as .offline) x) (hc : x.channels = d.channels)
    (hq : ∀ a ∈ as, (d.chan a).state ≠ .inFlight) : Departed as dest d (x.departedTo as dest) := by
  have hds : (d.setRosters as .offline).slots = d.slots := slots_setRosters
  have hdn : ∀ e b, (d.setRosters as .offline).notice e b = d.notice e b := fun e b => by
    unfold Device.notice; rw [notices_setRosters]
  have hdc : ∀ e b, (d.setRosters as .offline).concerns e b = d.concerns e b := fun e b => by
    unfold Device.concerns; rw [entry_of_slots hds]
  have hslot : ∀ e, (x.departedTo as dest).slot e = x.slot e := fun e => by unfold Device.slot; rw [slots_departedTo]
  have hentry : ∀ e, (x.departedTo as dest).entry e = x.entry e := entry_of_slots (slots_departedTo ..)
  have hag : ∀ b, x.agent b = (d.setRosters as .offline).agent b := agent_of_agents h.passes.agents
  have hchan : ∀ b, (x.departedTo as dest).chan b = d.chan b := chan_of_channels (by rw [departedTo_eq]; exact hc)
  have hb := h.board
  rw [setRosters_eq] at hb
  exact
    { gone := fun a ha => by
        rw [agent_departedTo, if_pos ha, hag, agent_setRosters, if_pos ha]
      nothing := fun a ha e r hr => by
        rw [hentry] at hr
        obtain ⟨hw, hab⟩ := h.gone a ha e (mem_allEntries e)
        have hst : (x.agent a).state = .offline := by rw [hag, agent_setRosters, if_pos ha]
        exact ⟨hab (.inl hst) r hr, hw (by rw [hst]; decide) r hr⟩
      quiet := fun a ha e => by rw [notice_departedTo]; exact notice_clearNotices ha x e
      still := fun a _ _ => hchan a
      aborted := fun a ha e r c hf => absurd (inFlight_of_inFlightOn hf) (hq a ha)
      others := fun a ha => ⟨by rw [agent_departedTo, if_neg ha, hag, agent_setRosters, if_neg ha], hchan a⟩
      untouched := fun e he => by
        obtain ⟨hs, hn⟩ := h.untouched e fun a ha => (hdc e a).trans (he a ha)
        refine ⟨(hslot e).trans (hs.trans (by unfold Device.slot; rw [hds])), fun a ha => ?_⟩
        rw [notice_departedTo, notice_clearNotices_ne ha, hn, hdn]
      groups := fun g hg => by
        have := h.groups g fun e r hr hrg a ha => (hdc e a).trans (hg e r (by rw [← entry_of_slots hds, hr]) hrg a ha)
        rw [departedTo_eq]
        refine Eq.trans this ?_
        rw [setRosters_eq]
        rfl
      records := fun e r r' hr hr' => by
        rw [hentry] at hr'
        obtain ⟨r₀, hr₀, hp, hgen⟩ := h.passes.records e r' hr'
        rw [entry_of_slots hds, hr] at hr₀
        cases hr₀
        exact ⟨hp.frame, by rw [hslot, hgen]; unfold Device.slot; rw [hds]⟩
      served := fun e r r' a hr hr' ha => by
        rw [hentry] at hr'
        obtain ⟨r₀, hr₀, hp, -⟩ := h.passes.records e r' hr'
        rw [entry_of_slots hds, hr] at hr₀
        cases hr₀
        exact ⟨hp.held a ha, hp.waited a ha⟩
      drained := fun e r hr hn => h.passes.drained e r (by rw [entry_of_slots hds, hr]) (by rw [← hentry, hn])
      boot := by rw [departedTo_eq]; exact hb.boot
      config := by rw [departedTo_eq]; exact hb.config
      tickPhase := by
        rw [departedTo_eq]; refine h.tickPhase.trans ?_; rw [setRosters_eq]
      tickPeriod := by
        rw [departedTo_eq]; refine h.tickPeriod.trans ?_; rw [setRosters_eq]
      issued := by rw [departedTo_eq]; exact hb.issued
      cmdReset := by rw [departedTo_eq]; exact hb.cmdReset
      recorded := by rw [departedTo_eq]; exact hb.recorded
      window := by
        have hw : ((x.clearNotices as).setRosters as dest).reclaimLeft = d.reclaimLeft := by
          rw [setRosters_eq, clearNotices_eq]
          exact hb.reclaimLeft
        have hst : ∀ b, ((x.departedTo as dest).agent b).state = (((x.clearNotices as).setRosters as dest).agent b).state :=
          fun b => by rw [Device.departedTo, agent_of_agents (agents_closeWindow _)]
        rw [Device.departedTo, reclaimLeft_closeWindow, hw]
        simp only [← hst]
        rfl }

/-! ### Channels that are not IN_FLIGHT -/

theorem abortFlight_quiet (hq : (d.chan a).state ≠ .inFlight) (e : EntryIx) (p : Priority) : d.abortFlight e a p = d := by
  unfold Device.abortFlight
  rw [if_neg]
  exact fun h => hq (inFlight_of_inFlightOn h)

theorem departWait_quiet (hq : (d.chan a).state ≠ .inFlight) (e : EntryIx) :
    d.departWait e a = if (d.entry e).any (·.waitedBy a) then (d.removeCell e a).grantDecision e else d := by
  rcases departWait_cases d e a with ⟨h, hn⟩ | ⟨r, c, hr, hc, h⟩ <;> rw [h]
  · rw [if_neg]
    cases hr : d.entry e with
    | none => simp
    | some r => simp [hn r hr]
  · rw [abortFlight_quiet hq, if_pos]
    simp [hr, Record.waitedBy, hc]

theorem channels_departWait (hq : (d.chan a).state ≠ .inFlight) (e : EntryIx) : (d.departWait e a).channels = d.channels := by
  rw [departWait_quiet hq]
  split
  · exact ((onlyEntry_removeCell ..).trans (onlyEntry_grantDecision ..)).channels
  · rfl

theorem channels_departHold (d : Device) (e : EntryIx) (a : Agent) : (d.departHold e a).channels = d.channels := by
  rcases departHold_cases d e a with ⟨h, -⟩ | ⟨r, -, -, h⟩ <;> rw [h]
  exact (((onlyEntry_endGrant ..).trans (onlyEntry_grantDecision ..)).trans (onlyEntry_checkDrain ..)).channels

theorem departEntry_single (d : Device) (e : EntryIx) (a : Agent) : d.departEntry [a] e =
    if d.concerns e a then ((d.departWait e a).departHold e a).evaluate e else d := by
  simp [Device.departEntry]

theorem channels_departEntry (hq : (d.chan a).state ≠ .inFlight) (e : EntryIx) : (d.departEntry [a] e).channels = d.channels := by
  rw [departEntry_single]
  split
  · exact (onlyEntry_evaluate ..).channels.trans ((channels_departHold ..).trans (channels_departWait hq e))
  · rfl

theorem channels_departEntries (hq : (d.chan a).state ≠ .inFlight) (l : List EntryIx) :
    (d.departEntries [a] l).channels = d.channels := by
  induction l generalizing d with
  | nil => rfl
  | cons e l ih =>
    have h := channels_departEntry hq e
    exact (ih (d := d.departEntry [a] e) (by rw [chan_of_channels h]; exact hq)).trans h

/-! ### The departure does not look at a channel that is not IN_FLIGHT -/

section
variable {v : Vector Channel 8}

theorem departWait_withChannels (hq : (d.chan a).state ≠ .inFlight) (hv : (tget v a).state ≠ .inFlight) (e : EntryIx) :
    (d.withChannels v).departWait e a = (d.departWait e a).withChannels v := by
  rw [departWait_quiet hq, departWait_quiet (d := d.withChannels v) hv, removeCell_withChannels, grantDecision_withChannels]
  exact (apply_ite (Device.withChannels · v) ..).symm

theorem departHold_withChannels (d : Device) (v : Vector Channel 8) (e : EntryIx) (a : Agent) :
    (d.withChannels v).departHold e a = (d.departHold e a).withChannels v := by
  unfold Device.departHold
  rw [show (d.withChannels v).entry e = d.entry e from rfl]
  split
  · rfl
  · split
    · simp only [endGrant_withChannels, grantDecision_withChannels, checkDrain_withChannels]
    · rfl

theorem departEntry_withChannels (hq : (d.chan a).state ≠ .inFlight) (hv : (tget v a).state ≠ .inFlight) (e : EntryIx) :
    (d.withChannels v).departEntry [a] e = (d.departEntry [a] e).withChannels v := by
  rw [departEntry_single, departEntry_single, departWait_withChannels hq hv, departHold_withChannels, evaluate_withChannels]
  exact (apply_ite (Device.withChannels · v) ..).symm

theorem departEntries_withChannels (hq : (d.chan a).state ≠ .inFlight) (hv : (tget v a).state ≠ .inFlight) (l : List EntryIx) :
    (d.withChannels v).departEntries [a] l = (d.departEntries [a] l).withChannels v := by
  induction l generalizing d with
  | nil => rfl
  | cons e l ih =>
    change ((d.withChannels v).departEntry [a] e).departEntries [a] l = _
    rw [departEntry_withChannels hq hv]
    exact ih (by rw [chan_of_channels (channels_departEntry hq e)]; exact hq)

end

end

end Sys2Proof.Machine
end

section
/-!
PROOFS. ATTACH of a REJOINING agent (R25, R136, R138, R151): the departure, and what becomes of entry 0 where the agent is the
boot agent.
-/
namespace Sys2Proof.Machine

section
variable {s : State} {d d₁ : Device} {e : EntryIx} {r : Record} {a b : Agent} {w : Writes} {c : WaitCell} {q : List WaitCell}

/-! ### The departure of an ATTACH -/

theorem leaving_attachGone (d : Device) (a : Agent) : Leaving [a] allEntries (d.setRoster a .offline) (d.attachGone a) := by
  have hleft : Leaving [a] [0] (d.setRoster a .offline) (d.attachLeft a) := .departEntry [a] _ 0
  have hticket : Leaving [a] [] (d.attachLeft a)
      (if (d.attachLeft a).leasesTo a then (d.attachLeft a).advanceTicket else d.attachLeft a) := by
    split
    · exact .advanceTicket [a] _
    · exact .refl [a] _
  exact (hleft.trans hticket).trans (.departEntries [a] allEntries.tail _)

theorem channels_attachLeft (hq : (d.chan a).state ≠ .inFlight) : (d.attachLeft a).channels = d.channels :=
  channels_departEntry (d := d.setRoster a .offline) hq 0

theorem channels_attachGone (hq : (d.chan a).state ≠ .inFlight) : (d.attachGone a).channels = d.channels := by
  have hleft := channels_attachLeft hq
  have hq' : ((d.attachLeft a).chan a).state ≠ .inFlight := by rw [chan_of_channels hleft]; exact hq
  unfold Device.attachGone
  split
  · exact (channels_departEntries (d := (d.attachLeft a).advanceTicket) hq' _).trans hleft
  · exact (channels_departEntries hq' _).trans hleft

theorem attachBack_eq (d : Device) (a : Agent) : d.attachBack a = (d.attachGone a).departedTo [a] .online := rfl

/-- The agent that attaches has departed, and is ONLINE (R136). -/
theorem departed_attachBack (hq : (d.chan a).state ≠ .inFlight) : Departed [a] .online d (d.attachBack a) :=
  departed_of_leaving (leaving_attachGone d a) (channels_attachGone hq) fun b hb => by
    rw [List.mem_singleton.mp hb]; exact hq

theorem channels_departedTo (d : Device) (as : List Agent) (dest : Roster) : (d.departedTo as dest).channels = d.channels := by
  rw [departedTo_eq]

theorem channels_attachBack (hq : (d.chan a).state ≠ .inFlight) : (d.attachBack a).channels = d.channels := by
  rw [attachBack_eq]
  exact (channels_departedTo ..).trans (channels_attachGone hq)

theorem boot_attachLeft (d : Device) (a : Agent) : (d.attachLeft a).boot = d.boot :=
  (reaches_departEntry [a] (d.setRoster a .offline) 0).boot

theorem boot_attachBack (hq : (d.chan a).state ≠ .inFlight) : (d.attachBack a).boot = d.boot := (departed_attachBack hq).boot

theorem leasesTo_attachLeft (h : (d.attachLeft a).leasesTo a = true) : a = d.boot ∧ (d.attachLeft a).leaseFree = true := by
  obtain ⟨hb, hf⟩ := Bool.and_eq_true_iff.mp (Bool.and_eq_true_iff.mp h).1
  exact ⟨boot_attachLeft d a ▸ of_decide_eq_true hb, hf⟩

/-- An agent that is not the boot agent is done with its departure. -/
theorem attachRejoining_other (hq : (d.chan a).state ≠ .inFlight) (hb : a ≠ d.boot) : d.attachRejoining a = d.attachBack a := by
  rw [attachRejoining_eq, if_neg fun h => hb (leasesTo_attachLeft h).1, if_neg]
  rwa [boot_attachBack hq]

/-- After the departure entry 0 alone changes. -/
theorem onlyEntry_attachRejoining (d : Device) (a : Agent) : OnlyEntry 0 (d.attachBack a) (d.attachRejoining a) := by
  rw [attachRejoining_eq]
  split
  · exact ((onlyEntry_addHolder ..).trans (onlyEntry_post ..)).trans (onlyEntry_evaluate ..)
  · split
    · exact onlyEntry_handOn ..
    · exact .refl 0 _

/-! ### The answer -/

section
variable {v : Vector Channel 8}

@[simp] theorem closeWindow_withChannels (d : Device) (v : Vector Channel 8) :
    (d.withChannels v).closeWindow = d.closeWindow.withChannels v := by
  unfold Device.closeWindow
  change (if (allAgents.any fun a => (d.agent a).state = .rejoining) = true then _ else _) = _
  split <;> rfl

theorem attachLeft_withChannels (hq : (d.chan a).state ≠ .inFlight) (hv : (tget v a).state ≠ .inFlight) :
    (d.withChannels v).attachLeft a = (d.attachLeft a).withChannels v :=
  departEntry_withChannels (d := d.setRoster a .offline) hq hv 0

theorem attachGone_withChannels (hq : (d.chan a).state ≠ .inFlight) (hv : (tget v a).state ≠ .inFlight) :
    (d.withChannels v).attachGone a = (d.attachGone a).withChannels v := by
  have hq' : ((d.attachLeft a).chan a).state ≠ .inFlight := by rw [chan_of_channels (channels_attachLeft hq)]; exact hq
  have hl : ((d.attachLeft a).withChannels v).leasesTo a = (d.attachLeft a).leasesTo a := rfl
  unfold Device.attachGone
  rw [attachLeft_withChannels hq hv, hl]
  split
  · exact departEntries_withChannels (d := (d.attachLeft a).advanceTicket) hq' hv _
  · exact departEntries_withChannels hq' hv _

theorem attachBack_withChannels (hq : (d.chan a).state ≠ .inFlight) (hv : (tget v a).state ≠ .inFlight) :
    (d.withChannels v).attachBack a = (d.attachBack a).withChannels v := by
  unfold Device.attachBack
  rw [attachGone_withChannels hq hv, ← closeWindow_withChannels]
  generalize d.attachGone a = x
  rfl

theorem attachRejoining_withChannels (hq : (d.chan a).state ≠ .inFlight) (hv : (tget v a).state ≠ .inFlight) :
    (d.withChannels v).attachRejoining a = (d.attachRejoining a).withChannels v := by
  have hl : ((d.attachLeft a).withChannels v).leasesTo a = (d.attachLeft a).leasesTo a := rfl
  rw [attachRejoining_eq, attachRejoining_eq, attachLeft_withChannels hq hv, attachBack_withChannels hq hv, hl]
  generalize d.attachLeft a = y
  generalize d.attachBack a = x
  split
  · rw [← evaluate_withChannels, ← post_withChannels]
    rfl
  · change (if a = x.boot then (x.withChannels v).handOn 0 else x.withChannels v) = _
    rw [handOn_withChannels]
    split <;> rfl

end

theorem channels_attachRejoining (hq : (d.chan a).state ≠ .inFlight) : (d.attachRejoining a).channels = d.channels :=
  (onlyEntry_attachRejoining d a).channels.trans (channels_attachBack hq)

/-- ATTACH of a REJOINING agent reports its configuration and how many grants it gave up (R136). -/
theorem exec_attach_rejoining (h : Starts s d a .attach w d₁) (hst : (d₁.agent a).state = .rejoining) :
    exec (.attach a w) s =
      .next (s.withDev ((d₁.attachRejoining a).answered a .attach (d₁.attachInfo a (d₁.holdCount a)))) := by
  have hq : (d₁.chan a).state ≠ .inFlight := by rw [h.ready]; decide
  have hv : (tget (tset d₁.channels a ((d₁.chan a).start .attach)) a).state ≠ .inFlight := by
    simp [tget_tset_same, Channel.start]
  have hst' : ((d₁.started a .attach).agent a).state = .rejoining := hst
  have hjudge : (d₁.started a .attach).judge a .attach takeAttach =
      ((d₁.started a .attach).attachRejoining a, some (d₁.attachInfo a (d₁.holdCount a))) := by
    unfold Device.judge takeAttach
    simp only [hst', attachCheck, isControlCommand, Bool.false_eq_true, false_and, if_false]
    rfl
  change s.onLive (commandWrite .attach takeAttach a w) = _
  rw [onLive_live h.live, commandWrite_starts h, hjudge]
  unfold writeBack
  dsimp only
  rw [started_eq, attachRejoining_withChannels hq hv, finish_withChannels (channels_attachRejoining hq)]

/-! ### Evaluations that leave a grant as it is -/

/-- An evaluation with nothing to ask and nothing to withdraw changes nothing. -/
theorem evaluate_keep (hr : d.entry e = some r)
    (hk : ∀ h ∈ r.holders, askOutcome r.policy r.queue (decide (d.Online h.agent)) h = .keep) : d.evaluate e = d := by
  have tell : ∀ (l : List Holder) (d' : Device), (∀ h ∈ l, h ∈ r.holders) →
      l.foldl (fun d' h => d'.tellAsk e h.agent (askOutcome r.policy r.queue (decide (d.Online h.agent)) h)) d' = d' := by
    intro l
    induction l with
    | nil => exact fun _ _ => rfl
    | cons h l ih =>
      intro d' hl
      rw [List.foldl_cons, hk h (hl h (by simp))]
      exact ih d' fun x hx => hl x (by simp [hx])
  have hmap : (r.holders.map fun h => h.afterAsk r.policy (askOutcome r.policy r.queue (decide (d.Online h.agent)) h)) = r.holders :=
    (List.map_congr_left fun h hh => by rw [hk h hh]; rfl).trans (List.map_id r.holders)
  unfold Device.evaluate
  rw [hr]
  dsimp only
  rw [modifyEntry_eq_putRecord hr, tell _ _ fun _ h => h, hmap]
  exact putRecord_self hr

/-- Nobody is asked on an entry that nobody waits for (R83). -/
theorem askOutcome_nil (p : YieldPolicy) (o : Bool) {h : Holder} (ha : h.asked = false) : askOutcome p [] o h = .keep := by
  simp [askOutcome, ha, demandAgainst, belowDemand]

@[simp] theorem kept_afterAsk (h : Holder) (p : YieldPolicy) (o : AskOutcome) : (h.afterAsk p o).kept = h.kept := by
  cases o <;> rfl

/-- An evaluation keeps every grant but for its yield state (R85 to R88). -/
theorem entry_evaluate_kept (hr : d.entry e = some r) : ∃ hs, hs.map Holder.kept = r.holders.map Holder.kept ∧
    (d.evaluate e).entry e = some { r with holders := hs } := by
  refine ⟨r.holders.map fun h => h.afterAsk r.policy (askOutcome r.policy r.queue (decide (d.Online h.agent)) h), ?_, ?_⟩
  · rw [List.map_map]
    exact List.map_congr_left fun h _ => kept_afterAsk ..
  · unfold Device.evaluate
    rw [hr]
    dsimp only
    rw [entry_of_slots (slots_tellAsks r.holders (·.agent) _ _ e), Device.entry_modifyEntry, if_pos rfl, hr]
    rfl

/-- GRANTED is pending in the agent's cell for the slot. -/
def Device.GrantedPending (d : Device) (e : EntryIx) (b : Agent) : Prop := (d.notice e b).kinds.granted = true

theorem grantedPending_tellAsk (o : AskOutcome) (h : d.GrantedPending e b) : (d.tellAsk e a o).GrantedPending e b := by
  unfold Device.GrantedPending at h ⊢
  cases o with
  | keep => exact h
  | ask =>
    unfold Device.tellAsk Device.post
    rw [notice_postGen]
    split
    · next hab => rw [hab.1.2]; exact h
    · exact h
  | withdraw =>
    unfold Device.tellAsk Device.unpost
    rw [Device.notice_setNotice]
    split
    · next hab => rw [hab.2]; exact h
    · exact h

theorem grantedPending_evaluate (h : d.GrantedPending e b) : (d.evaluate e).GrantedPending e b := by
  have tell : ∀ (l : List Holder) (o : Holder → AskOutcome) (d' : Device), d'.GrantedPending e b →
      (l.foldl (fun d' h => d'.tellAsk e h.agent (o h)) d').GrantedPending e b := by
    intro l o
    induction l with
    | nil => exact fun _ h => h
    | cons x l ih => exact fun d' h => ih _ (grantedPending_tellAsk _ h)
  unfold Device.evaluate
  split
  · exact h
  · exact tell _ _ _ h

/-! ### A held entry handed on -/

theorem checkDrain_live (hr : d.entry e = some r) (hl : r.lifecycle = .live) : d.checkDrain e = d := by
  simp [Device.checkDrain, hr, hl]

/-- A held entry that EXCLUSIVE cells alone wait for is handed on by its evaluation (R72). -/
theorem handOn_held (hr : d.entry e = some r) (hl : r.lifecycle = .live) (hh : r.holders ≠ [])
    (hq : ∀ c ∈ r.queue, c.mode = .exclusive) : d.handOn e = d.evaluate e := by
  have hg : d.grantDecision e = d := by
    by_cases hd : r.decidable = true
    · cases hqueue : r.queue with
      | nil => simp [Device.grantDecision, hr, hd, hqueue, Device.decideIdle, hh]
      | cons c q =>
        refine grantDecision_blocked hr hd hqueue fun c' q' hq' => ?_
        rw [hq c' (by rw [hq']; exact List.mem_cons_self)]
        exact hh
    · simp [Device.grantDecision, hr, hd]
  rw [Device.handOn, hg, checkDrain_live hr hl]

/-! ### Entry 0 as the departure leaves it -/

theorem notice_attachBack_zero (hb : b ≠ a) (d : Device) : (d.attachBack a).notice 0 b = (d.attachLeft a).notice 0 b := by
  have hrest : ∀ (l : List EntryIx) (x : Device), (∀ y ∈ l, y ≠ 0) → (x.departEntries [a] l).notice 0 b = x.notice 0 b := by
    intro l
    induction l with
    | nil => exact fun _ _ => rfl
    | cons y l ih =>
      intro x hl
      exact (ih (x.departEntry [a] y) fun z hz => hl z (by simp [hz])).trans
        ((LeavesElse.departEntry [a] x y).notices 0 (hl y (by simp)).symm b)
  rw [attachBack_eq, notice_departedTo, notice_clearNotices_ne (by simpa using hb), Device.attachGone,
    hrest _ _ ne_zero_of_mem_tail]
  split <;> rfl

theorem entry_attachBack_zero (d : Device) (a : Agent) : (d.attachBack a).entry 0 = (d.attachLeft a).entry 0 := by
  unfold Device.entry; rw [slot_zero_attachBack]

/-- The agent has no part in entry 0: the departure leaves it. -/
theorem attachLeft_unconcerned (hr : d.entry 0 = some r) (hh : r.heldBy a = false) (hw : r.waitedBy a = false) :
    d.attachLeft a = d.setRoster a .offline :=
  departEntry_unconcerned fun b hb => by
    rw [List.mem_singleton.mp hb]
    exact concerns_eq_false.mpr fun s hs => by
      rw [show (d.setRoster a .offline).entry 0 = d.entry 0 from rfl, hr] at hs
      cases hs
      exact ⟨hh, hw⟩

/-- The agent holds entry 0 alone, and waits for nothing: its record goes, and the entry is decided, and evaluated. -/
theorem attachLeft_held (hr : d.entry 0 = some r) (hl : r.lifecycle = .live) (hn : r.holders ≠ [])
    (hh : ∀ h ∈ r.holders, h.agent = a) (hw : r.waitedBy a = false) {x : Device}
    (hx : ((d.setRoster a .offline).putRecord 0 { r with holders := [], occupancy := .idle }).grantDecision 0 = x) :
    d.attachLeft a = x.evaluate 0 := by
  have hr' : (d.setRoster a .offline).entry 0 = some r := hr
  have hheld : r.heldBy a = true := by
    obtain ⟨h, l, hhl⟩ := List.exists_cons_of_ne_nil hn
    rw [heldBy_iff, ← hh h (by rw [hhl]; exact List.mem_cons_self)]
    exact List.mem_map_of_mem (by rw [hhl]; exact List.mem_cons_self)
  have hcon : (d.setRoster a .offline).concerns 0 a = true := by simp [Device.concerns, hr', hheld]
  have hwait : (d.setRoster a .offline).departWait 0 a = d.setRoster a .offline := by
    rcases departWait_cases (d.setRoster a .offline) 0 a with ⟨h, -⟩ | ⟨r₀, c, hr₀, hc, -⟩
    · exact h
    · rw [hr'] at hr₀
      cases hr₀
      simp [Record.waitedBy, hc] at hw
  have hend : r.withoutGrant a = { r with holders := [], occupancy := .idle } := by
    have hfilter : (r.holders.filter fun h => h.agent ≠ a) = [] :=
      List.filter_eq_nil_iff.mpr fun h hm => by simp [hh h hm]
    have hqueue : (r.queue.filter fun c => ¬ (c.agent = a ∧ c.mode = .upgrade)) = r.queue :=
      List.filter_eq_self.mpr fun c hc => decide_eq_true fun h => waitedBy_eq_false.mp hw c hc h.1
    unfold Record.withoutGrant
    rw [hfilter, hqueue]
    rfl
  have hlive : x.checkDrain 0 = x := by
    have hp := Device.Passes.grantDecision []
      ((d.setRoster a .offline).putRecord 0 { r with holders := [], occupancy := .idle }) 0
    rw [hx] at hp
    cases he : x.entry 0 with
    | none => simp [Device.checkDrain, he]
    | some s =>
      obtain ⟨r₀, hr₀, hpass, -⟩ := hp.records 0 s he
      rw [entry_putRecord, if_pos rfl] at hr₀
      cases hr₀
      exact checkDrain_live he (hpass.lifecycle.trans hl)
  have hhold : (d.setRoster a .offline).departHold 0 a = x := by
    rw [Device.departHold, hr']
    dsimp only
    rw [if_pos hheld, endGrant_eq hr', hend, hx, hlive]
  rw [Device.attachLeft, departEntry_single, if_pos hcon, hwait, hhold]

/-- A decidable record made idle is decidable. -/
theorem decidable_idle (hd : r.decidable = true) (hs : List Holder) :
    ({ r with holders := hs, occupancy := .idle } : Record).decidable = true := by
  simp [Record.decidable, Record.isRetiring, Record.isSwitching, live_of_decidable hd]

/-! ### Entry 0 after an ATTACH of the boot agent -/

/-- Entry 0 held by the boot agent alone, or by nobody, with nobody waiting, is left free, with the ticket not yet taken. -/
theorem attachLeft_free (hr : d.entry 0 = some r) (hd : r.decidable = true) (hg : r.group = none)
    (hh : ∀ h ∈ r.holders, h.agent = a) (hq : r.queue = []) (hb : a = d.boot) :
    ∃ o, (d.attachLeft a).entry 0 = some { r with holders := [], occupancy := o } ∧
      ({ r with holders := [], occupancy := o } : Record).decidable = true ∧ (d.attachLeft a).ticket = d.ticket := by
  have hw : r.waitedBy a = false := by simp [waitedBy_eq_false, hq]
  by_cases hn : r.holders = []
  · refine ⟨r.occupancy, ?_⟩
    have hsame : ({ r with holders := [] } : Record) = r := by rw [← hn]
    rw [attachLeft_unconcerned hr (by simp [heldBy_eq_false, hn]) hw]
    exact ⟨hr.trans (congrArg some hsame.symm), by rw [hsame]; exact hd, rfl⟩
  · refine ⟨.idle, ?_⟩
    have hdi := decidable_idle hd []
    generalize hx : (d.setRoster a .offline).putRecord 0 { r with holders := [], occupancy := .idle } = x
    have hxr : x.entry 0 = some { r with holders := [], occupancy := .idle } := by
      rw [← hx]; exact (entry_putRecord ..).trans (if_pos rfl)
    have hnot : x.bootEligible = false := by
      have hst : (x.agent x.boot).state = .offline := by
        rw [← hx]
        change ((d.setRoster a .offline).agent d.boot).state = .offline
        rw [agent_setRoster, if_pos hb]
      simp [Device.bootEligible, Device.Online, hst]
    have hdec : x.grantDecision 0 = x := by
      simp [Device.grantDecision, hxr, hq, Device.decideIdle, hg, hnot]
    have heval : x.evaluate 0 = x := evaluate_keep hxr fun h hm => by cases hm
    rw [attachLeft_held hr (live_of_decidable hd) hn hh hw (x := x) (by rw [hx]; exact hdec), heval]
    exact ⟨hxr, hdi, by rw [← hx]; rfl⟩

/-- Entry 0, free after the departure of the boot agent, is granted to it again with the ticket set aside (R136, R151). -/
theorem attachRejoining_leased (hf : (d.chan a).state ≠ .inFlight) (hr : d.entry 0 = some r) (hd : r.decidable = true)
    (hg : r.group = none) (hh : ∀ h ∈ r.holders, h.agent = a) (hq : r.queue = []) (hb : a = d.boot)
    (hquota : 1 ≤ (d.agent a).holdQuota) :
    (d.attachRejoining a).entry 0 = some { r with holders := [leaseHolder a d.ticket], occupancy := .heldX } ∧
    (d.attachRejoining a).notice 0 a = { kinds := { granted := true }, generation := some (d.slot 0).generation } := by
  obtain ⟨o, he, hdec, ht⟩ := attachLeft_free hr hd hg hh hq hb
  have hdep := departed_attachBack hf
  have hlease : (d.attachLeft a).leasesTo a = true := by
    have hfree : (d.attachLeft a).leaseFree = true := leaseFree_iff.mpr ⟨_, he, hdec, rfl, hq, hg⟩
    have hag : ((d.attachLeft a).agent a).holdQuota = (d.agent a).holdQuota := by
      rw [Device.attachLeft, agent_of_agents (reaches_departEntry _ _ _).agents, agent_setRoster, if_pos rfl]
    simp only [Device.leasesTo, boot_attachLeft, hfree, hag, Bool.and_eq_true, decide_eq_true_eq]
    exact ⟨⟨hb, trivial⟩, hquota⟩
  have hback : (d.attachBack a).entry 0 = some { r with holders := [], occupancy := o } := (entry_attachBack_zero d a).trans he
  have hgen : ((d.attachBack a).slot 0).generation = (d.slot 0).generation := (hdep.records 0 r _ hr hback).2
  have hon : ((d.attachBack a).agent a).state = .online := by rw [hdep.gone a (List.mem_singleton_self a)]
  have hrep := replaces_addHolder hback (leaseHolder a d.ticket)
  generalize hx : (d.attachBack a).addHolder 0 (leaseHolder a d.ticket) = x at hrep
  have hxr : (x.post 0 a .granted).entry 0 =
      some { r with holders := [leaseHolder a d.ticket], occupancy := .heldX } :=
    (entry_post ..).trans hrep.entry_same
  have hkeep : (x.post 0 a .granted).evaluate 0 = x.post 0 a .granted := by
    refine evaluate_keep hxr fun h hm => ?_
    rw [List.mem_singleton.mp hm]
    exact (congrArg (fun q => askOutcome r.policy q _ _) hq).trans (askOutcome_nil _ _ rfl)
  rw [attachRejoining_eq, if_pos hlease, ht, hx, hkeep]
  refine ⟨hxr, ?_⟩
  have hnone : x.notice 0 a = {} := by
    unfold Device.notice
    rw [hrep.notices]
    exact hdep.quiet a (List.mem_singleton_self a) 0
  have hxon : x.Online a := by unfold Device.Online; rw [hrep.agent]; exact hon
  unfold Device.post
  rw [notice_postGen, if_pos ⟨⟨rfl, rfl⟩, hxon⟩, hnone, hrep.generation, hgen]
  rfl

/-- Where entry 0 is held after the departure, the boot agent finds it taken: it is evaluated once more. -/
theorem attachRejoining_taken (hf : (d.chan a).state ≠ .inFlight) (hb : a = d.boot) {s : Record}
    (hs : (d.attachLeft a).entry 0 = some s) (hl : s.lifecycle = .live) (hh : s.holders ≠ [])
    (hq : ∀ c ∈ s.queue, c.mode = .exclusive) : d.attachRejoining a = (d.attachBack a).evaluate 0 := by
  have hnot : ¬ (d.attachLeft a).leasesTo a = true := fun h => by
    obtain ⟨s', hs', -, hnil, -⟩ := leaseFree_iff.mp (leasesTo_attachLeft h).2
    rw [hs] at hs'
    cases hs'
    exact hh hnil
  rw [attachRejoining_eq, if_neg hnot, if_pos (hb.trans (boot_attachBack hf).symm)]
  exact handOn_held ((entry_attachBack_zero d a).trans hs) hl hh hq

/-- Entry 0 held by the boot agent alone goes to the first EXCLUSIVE waiter as the departure leaves it (R72, R138). -/
theorem attachLeft_next (hr : d.entry 0 = some r) (hd : r.decidable = true) (hg : r.group = none) (hn : r.holders ≠ [])
    (hh : ∀ h ∈ r.holders, h.agent = a) (hq : r.queue = c :: q) (hy : ∀ y ∈ r.queue, y.agent ≠ a ∧ y.mode = .exclusive) :
    (∃ h : Holder, h.kept = (c.agent, .exclusive, d.ticket, c.priority, termGranted r c.term) ∧
      (d.attachLeft a).entry 0 = some { r with
        holders := [h], queue := q.filter fun y => y.agent ≠ c.agent, occupancy := .heldX }) ∧
    ((d.agent c.agent).state = .online → (d.attachLeft a).GrantedPending 0 c.agent) := by
  have hc : c ∈ r.queue := by rw [hq]; exact List.mem_cons_self
  obtain ⟨hca, hcm⟩ := hy c hc
  have hw : r.waitedBy a = false := waitedBy_eq_false.mpr fun y hm => (hy y hm).1
  generalize hx : (d.setRoster a .offline).putRecord 0 { r with holders := [], occupancy := .idle } = x
  have hxr : x.entry 0 = some { r with holders := [], occupancy := .idle } := by
    rw [← hx]; exact (entry_putRecord ..).trans (if_pos rfl)
  have hdec : x.grantDecision 0 = x.grantQueued 0 c :=
    ((grantDecision_cons hxr (decidable_idle hd []) hq).2.1 hcm).trans (decideExclusive_granted rfl (.inl hg))
  have hleft : d.attachLeft a = (x.grantQueued 0 c).evaluate 0 :=
    attachLeft_held hr (live_of_decidable hd) hn hh hw (by rw [hx]; exact hdec)
  have hent := entry_grantQueued hxr c
  rw [grant_exclusive (r := { r with holders := [], occupancy := .idle }) hq hcm rfl] at hent
  have hticket : x.ticket = d.ticket := by rw [← hx]; rfl
  rw [hleft]
  refine ⟨?_, fun ho => grantedPending_evaluate ?_⟩
  · obtain ⟨hs, hkept, he⟩ := entry_evaluate_kept hent
    obtain ⟨h, hhs⟩ := List.length_eq_one_iff.mp (show hs.length = 1 by simpa using congrArg List.length hkept)
    subst hhs
    refine ⟨h, ?_, he⟩
    rw [hticket] at hkept
    exact (List.cons.inj hkept).1
  · unfold Device.GrantedPending
    have hag : x.agent c.agent = d.agent c.agent := by
      rw [← hx]
      change (d.setRoster a .offline).agent c.agent = _
      rw [agent_setRoster, if_neg (Ne.symm hca)]
    rw [notice_grantQueued hxr, if_pos ⟨rfl, by rw [hag]; exact ho⟩]
    rfl

/-- Entry 0 held by the boot agent alone, with EXCLUSIVE waiters: the first of them has it (R72, R138). -/
theorem attachRejoining_next (hf : (d.chan a).state ≠ .inFlight) (hr : d.entry 0 = some r) (hd : r.decidable = true)
    (hg : r.group = none) (hn : r.holders ≠ []) (hh : ∀ h ∈ r.holders, h.agent = a) (hq : r.queue = c :: q)
    (hy : ∀ y ∈ r.queue, y.agent ≠ a ∧ y.mode = .exclusive) (hb : a = d.boot) :
    (∃ h : Holder, h.kept = (c.agent, .exclusive, d.ticket, c.priority, termGranted r c.term) ∧
      (d.attachRejoining a).entry 0 = some { r with
        holders := [h], queue := q.filter fun y => y.agent ≠ c.agent, occupancy := .heldX }) ∧
    ((d.agent c.agent).state = .online → ((d.attachRejoining a).notice 0 c.agent).kinds.granted = true) := by
  obtain ⟨⟨k, hk, he⟩, hnotice⟩ := attachLeft_next hr hd hg hn hh hq hy
  have hc : c ∈ r.queue := by rw [hq]; exact List.mem_cons_self
  have htaken : d.attachRejoining a = (d.attachBack a).evaluate 0 :=
    attachRejoining_taken hf hb he (show r.lifecycle = .live from live_of_decidable hd) (List.cons_ne_nil _ _) fun y hm =>
      (hy y (by rw [hq]; exact List.mem_cons_of_mem c (List.mem_of_mem_filter hm))).2
  obtain ⟨hs, hkept, he'⟩ := entry_evaluate_kept ((entry_attachBack_zero d a).trans he)
  obtain ⟨k', hhs⟩ := List.length_eq_one_iff.mp (show hs.length = 1 by simpa using congrArg List.length hkept)
  subst hhs
  have hpending (ho : (d.agent c.agent).state = .online) : (d.attachBack a).GrantedPending 0 c.agent := by
    unfold Device.GrantedPending
    rw [notice_attachBack_zero (hy c hc).1]
    exact hnotice ho
  rw [htaken]
  exact ⟨⟨k', ((List.cons.inj hkept).1).trans hk, he'⟩, fun ho => grantedPending_evaluate (hpending ho)⟩

/-- Settles O22: the departure by `departed_attachBack`, and entry 0 by who held it before. -/
theorem attachGivesUpKeptGrants : Obligations.AttachGivesUpKeptGrants := by
  intro s d d₁ ch w h x hst
  have hf : (d₁.chan ch).state ≠ .inFlight := by rw [h.ready]; decide
  refine ⟨d₁.attachBack ch, d₁.attachRejoining ch, departed_attachBack hf, exec_attach_rejoining h hst,
    attachRejoining_other hf, fun hb => ⟨onlyEntry_attachRejoining d₁ ch, fun r hr hd hg => ⟨?_, ?_, ?_⟩⟩⟩
  · exact fun hh hq hquota => attachRejoining_leased hf hr hd hg hh hq hb hquota
  · intro c q hn hh hq hy
    exact attachRejoining_next hf hr hd hg hn hh hq hy hb
  · intro hn hh hy
    have hleft := attachLeft_unconcerned hr (heldBy_eq_false.mpr hh) (waitedBy_eq_false.mpr fun y hm => (hy y hm).1)
    have hr' : (d₁.attachLeft ch).entry 0 = some r := by
      rw [hleft, entry_of_slots (Device.setRoster_slots ..)]; exact hr
    obtain ⟨hs, hkept, he⟩ := entry_evaluate_kept ((entry_attachBack_zero d₁ ch).trans hr')
    rw [attachRejoining_taken hf hb hr' (live_of_decidable hd) hn fun y hm => (hy y hm).2]
    exact ⟨hs, hkept, he⟩

end

end Sys2Proof.Machine
end

section
/-!
PROOFS. A departure of agents whose channels may be IN_FLIGHT (R133, R138, R139), and the window expiry (R45, R177, R179).
-/
namespace Sys2Proof.Machine

section
variable {as : List Agent} {d d' x : Device} {e y : EntryIx} {r : Record} {a b : Agent} {c : WaitCell} {l : List EntryIx}
  {dest : Roster}

/-! ### What a departure does to a channel -/

/-- A latched REQUEST names one entry. -/
theorem inFlightOn_unique (h : d.inFlightOn a e = true) (h' : d.inFlightOn a y = true) : e = y := by
  obtain ⟨-, he⟩ := Bool.and_eq_true_iff.mp h
  obtain ⟨-, hy⟩ := Bool.and_eq_true_iff.mp h'
  split at he
  · next k hk =>
    rw [hk] at hy
    exact Fin.ext ((eq_of_beq he).symm.trans (eq_of_beq hy))
  · cases he

theorem inFlightOn_of_chan (h : d'.chan a = d.chan a) (e : EntryIx) : d'.inFlightOn a e = d.inFlightOn a e := by
  unfold Device.inFlightOn
  rw [h]

theorem inFlightOn_eq_false (h : (d.chan a).state ≠ .inFlight) (e : EntryIx) : d.inFlightOn a e = false :=
  Bool.eq_false_iff.mpr fun hf => h (inFlight_of_inFlightOn hf)

theorem chan_abortFlight (h : a = b → d.inFlightOn b e = false) (p : Priority) : (d.abortFlight e a p).chan b = d.chan b := by
  unfold Device.abortFlight
  split
  · next hf =>
    rw [chan_finish, if_neg]
    rintro rfl
    rw [h rfl] at hf
    cases hf
  · rfl

/-- Step 2 of a departure reaches the channel of the departing agent, where it is IN_FLIGHT on the entry (R138). -/
theorem chan_departWait (h : a = b → d.inFlightOn b e = false) : (d.departWait e a).chan b = d.chan b := by
  rcases departWait_cases d e a with ⟨hw, -⟩ | ⟨r, c, -, -, hw⟩ <;> rw [hw]
  rw [chan_of_channels ((onlyEntry_removeCell ..).trans (onlyEntry_grantDecision ..)).channels, chan_abortFlight h]

theorem chan_departWaits (h : b ∈ as → d.inFlightOn b e = false) :
    (as.foldl (fun d a => d.departWait e a) d).chan b = d.chan b := by
  induction as generalizing d with
  | nil => rfl
  | cons a as ih =>
    have ha : (d.departWait e a).chan b = d.chan b := chan_departWait fun hab => h (by simp [hab])
    rw [List.foldl_cons, ih fun hb => (inFlightOn_of_chan ha e).trans (h (by simp [hb])), ha]

theorem channels_departHolds (as : List Agent) (d : Device) (e : EntryIx) :
    (as.foldl (fun d a => d.departHold e a) d).channels = d.channels := by
  induction as generalizing d with
  | nil => rfl
  | cons a as ih => exact (ih _).trans (channels_departHold d e a)

/-- After step 2 of a departure its work on an entry does not look at the channels. -/
theorem chan_departEntry_concerned (h : as.any (d.concerns e) = true) (b : Agent) :
    (d.departEntry as e).chan b = (as.foldl (fun d a => d.departWait e a) d).chan b := by
  unfold Device.departEntry
  rw [if_pos h]
  exact chan_of_channels ((onlyEntry_evaluate ..).channels.trans (channels_departHolds ..)) b

theorem chan_departEntry (h : b ∈ as → d.inFlightOn b e = false) : (d.departEntry as e).chan b = d.chan b := by
  by_cases hc : as.any (d.concerns e) = true
  · rw [chan_departEntry_concerned hc, chan_departWaits h]
  · unfold Device.departEntry
    rw [if_neg hc]

theorem chan_departEntries (h : b ∈ as → ∀ e ∈ l, d.inFlightOn b e = false) : (d.departEntries as l).chan b = d.chan b := by
  induction l generalizing d with
  | nil => rfl
  | cons e l ih =>
    have he : (d.departEntry as e).chan b = d.chan b := chan_departEntry fun hb => h hb e (by simp)
    exact (ih fun hb y hy => (inFlightOn_of_chan he y).trans (h hb y (by simp [hy]))).trans he

/-! ### The REQUEST that a departure aborts -/

theorem cell_withoutCell_ne (h : a ≠ b) (r : Record) : (r.withoutCell b).cell a = r.cell a := by
  rw [Record.cell, Record.withoutCell, List.find?_filter]
  refine List.find?_congr fun c _ => ?_
  by_cases hc : c.agent = a
  · simp [hc, h]
  · simp [hc]

/-- On a RETIRING, SWITCHING or FAULTED entry the grant decision does not run (R70). -/
theorem grantDecision_undecidable (hr : d.entry e = some r) (hd : r.decidable = false) : d.grantDecision e = d := by
  unfold Device.grantDecision
  rw [hr]
  exact if_neg (by simp [hd])

theorem not_decidable_of_switching (hs : r.isSwitching = true) : r.decidable = false := by simp [Record.decidable, hs]

/-- Another agent's step 2 on a SWITCHING entry leaves an agent's cell there. -/
theorem entry_departWait_switching (hr : d.entry e = some r) (hs : r.isSwitching = true) (hc : r.cell a = some c) (h : a ≠ b) :
    ∃ r', (d.departWait e b).entry e = some r' ∧ r'.isSwitching = true ∧ r'.cell a = some c := by
  rcases departWait_cases d e b with ⟨hw, -⟩ | ⟨r₀, c₀, hr₀, -, hw⟩ <;> rw [hw]
  · exact ⟨r, hr, hs, hc⟩
  · cases hr.symm.trans hr₀
    have habort : (d.abortFlight e b c₀.priority).entry e = some r := by
      rw [entry_of_slots (slots_abortFlight ..), hr]
    have he : ((d.abortFlight e b c₀.priority).removeCell e b).entry e = some (r.withoutCell b) := by
      rw [removeCell_eq habort, entry_putRecord, if_pos rfl]
    rw [grantDecision_undecidable he (not_decidable_of_switching hs)]
    exact ⟨_, he, hs, (cell_withoutCell_ne h r).trans hc⟩

/-- The completion that a departure writes for the IN_FLIGHT REQUEST with cell `c` (R138). -/
def Channel.aborted (x : Channel) (c : WaitCell) : Channel :=
  x.finish (some .request) { result := .aborted, priority := some c.priority }

theorem not_inFlightOn_aborted {c : WaitCell} (h : d'.chan a = (d.chan a).aborted c) (e : EntryIx) : d'.inFlightOn a e = false :=
  inFlightOn_eq_false (by rw [h]; simp [Channel.aborted, Channel.finish]) e

theorem chan_departWait_aborted (hf : d.inFlightOn a e = true) (hr : d.entry e = some r) (hc : r.cell a = some c) :
    (d.departWait e a).chan a = (d.chan a).aborted c := by
  rcases departWait_cases d e a with ⟨-, hn⟩ | ⟨r₀, c₀, hr₀, hc₀, hw⟩
  · have := hn r hr
    simp [Record.waitedBy, hc] at this
  · cases hr.symm.trans hr₀
    cases hc.symm.trans hc₀
    rw [hw, chan_of_channels ((onlyEntry_removeCell ..).trans (onlyEntry_grantDecision ..)).channels, Device.abortFlight,
      if_pos hf, chan_finish, if_pos rfl]
    rfl

theorem chan_departWaits_aborted (ha : a ∈ as) (hf : d.inFlightOn a e = true) (hr : d.entry e = some r)
    (hs : r.isSwitching = true) (hc : r.cell a = some c) :
    (as.foldl (fun d a => d.departWait e a) d).chan a = (d.chan a).aborted c := by
  induction as generalizing d r with
  | nil => cases ha
  | cons b as ih =>
    rw [List.foldl_cons]
    by_cases hb : a = b
    · subst hb
      have hab := chan_departWait_aborted hf hr hc
      rw [chan_departWaits fun _ => not_inFlightOn_aborted hab e, hab]
    · have hch : (d.departWait e b).chan a = d.chan a := chan_departWait fun h => absurd h.symm hb
      obtain ⟨r', hr', hs', hc'⟩ := entry_departWait_switching hr hs hc hb
      rw [ih ((List.mem_cons.mp ha).resolve_left hb) ((inFlightOn_of_chan hch e).trans hf) hr' hs' hc', hch]

theorem chan_departEntry_aborted (ha : a ∈ as) (hf : d.inFlightOn a e = true) (hr : d.entry e = some r)
    (hs : r.isSwitching = true) (hc : r.cell a = some c) : (d.departEntry as e).chan a = (d.chan a).aborted c := by
  rw [chan_departEntry_concerned, chan_departWaits_aborted ha hf hr hs hc]
  exact List.any_eq_true.mpr ⟨a, ha, by simp [Device.concerns, hr, Record.waitedBy, hc]⟩

theorem chan_departEntries_aborted (ha : a ∈ as) (he : e ∈ l) (hf : d.inFlightOn a e = true) (hr : d.entry e = some r)
    (hs : r.isSwitching = true) (hc : r.cell a = some c) : (d.departEntries as l).chan a = (d.chan a).aborted c := by
  induction l generalizing d with
  | nil => cases he
  | cons y l ih =>
    change ((d.departEntry as y).departEntries as l).chan a = _
    by_cases hy : e = y
    · subst hy
      have hab := chan_departEntry_aborted ha hf hr hs hc
      rw [chan_departEntries fun _ z _ => not_inFlightOn_aborted hab z, hab]
    · have hch : (d.departEntry as y).chan a = d.chan a :=
        chan_departEntry fun _ => Bool.eq_false_iff.mpr fun h => hy (inFlightOn_unique hf h)
      rw [ih ((List.mem_cons.mp he).resolve_left hy) ((inFlightOn_of_chan hch e).trans hf)
        ((reaches_departEntry as d y).entry hy ▸ hr), hch]

/-! ### The departure as a whole -/

theorem depart_eq_departedTo (d : Device) (as : List Agent) (dest : Roster) :
    d.depart as dest = ((d.setRosters as .offline).departEntries as allEntries).departedTo as dest := rfl

theorem clearNotices_withChannels (d : Device) (v : Vector Channel 8) (as : List Agent) :
    (d.withChannels v).clearNotices as = (d.clearNotices as).withChannels v :=
  foldl_withChannels d v _ (fun _ _ => rfl) as

theorem setRosters_withChannels (d : Device) (v : Vector Channel 8) (as : List Agent) (dest : Roster) :
    (d.withChannels v).setRosters as dest = (d.setRosters as dest).withChannels v :=
  foldl_withChannels d v _ (fun _ _ => rfl) as

theorem departedTo_withChannels (d : Device) (v : Vector Channel 8) (as : List Agent) (dest : Roster) :
    (d.withChannels v).departedTo as dest = (d.departedTo as dest).withChannels v := by
  simp only [Device.departedTo, clearNotices_withChannels, setRosters_withChannels, closeWindow_withChannels]

/-- What leaving the entries comes to does not look at the channels. -/
theorem Leaving.withChannels (h : Leaving as l d x) (v : Vector Channel 8) :
    Leaving as l (d.withChannels v) (x.withChannels v) where
  passes := ⟨h.passes.agents, fun e r' hr' =>
    let ⟨r, hr, hp, hg⟩ := h.passes.records e r' hr'
    ⟨r, hr, ⟨hp.frame, hp.held, hp.waited, hp.unwaited, hp.unheld⟩, hg⟩, h.passes.drained⟩
  gone := h.gone
  untouched := h.untouched
  groups := h.groups
  board := ⟨h.board.agents, h.board.boot, h.board.config, h.board.issued, h.board.cmdReset, h.board.recorded, h.board.reclaimLeft⟩
  tickPhase := h.tickPhase
  tickPeriod := h.tickPeriod

theorem chan_setRosters (d : Device) (as : List Agent) (dest : Roster) (b : Agent) : (d.setRosters as dest).chan b = d.chan b :=
  chan_of_channels (channels_setRosters ..) b

theorem chan_depart (d : Device) (as : List Agent) (dest : Roster) (b : Agent) :
    (d.depart as dest).chan b = ((d.setRosters as .offline).departEntries as allEntries).chan b := by
  rw [depart_eq_departedTo, chan_of_channels (channels_departedTo ..)]

/-- The agents of a departure have departed, whatever their channels hold: the departure with every channel at rest, beside
what it does to the channels. -/
theorem departed_depart (d : Device) (as : List Agent) (dest : Roster) : Departed as dest d (d.depart as dest) := by
  let v : Vector Channel 8 := Vector.replicate 8 { state := .ready }
  have hleave := (Leaving.departEntries as allEntries (d.setRosters as .offline)).withChannels v
  rw [← setRosters_withChannels] at hleave
  have h := departed_of_leaving (dest := dest) hleave rfl fun a _ => by
    change (tget v a).state ≠ _
    rw [tget_replicate]
    decide
  rw [departedTo_withChannels] at h
  have hflight : ∀ a e, (d.setRosters as .offline).inFlightOn a e = d.inFlightOn a e :=
    fun a e => inFlightOn_of_chan (chan_setRosters ..) e
  exact
    { h with
      still := fun a _ hq => by
        rw [chan_depart, chan_departEntries fun _ e _ => (hflight a e).trans (inFlightOn_eq_false hq e), chan_setRosters]
      aborted := fun a ha e r c hf hr hs hc => by
        rw [chan_depart, chan_departEntries_aborted ha (mem_allEntries e) ((hflight a e).trans hf)
          (by rw [entry_of_slots slots_setRosters, hr]) hs hc, chan_setRosters]
        rfl
      others := fun a ha =>
        ⟨(h.others a ha).1, by rw [chan_depart, chan_departEntries fun hb => absurd hb ha, chan_setRosters]⟩ }

end

/-! ### Issued events taken -/

section
variable {s : State} {d : Device} {x : Expiry}

/-- The device with the issued expiry `x` taken (R45). -/
def Device.taking (d : Device) (x : Expiry) : Device := { d with issued := d.issued.erase x }

/-- A live part takes an expiry at its row where it was issued, and only there. -/
theorem exec_expiry (h : Live s d) (x : Expiry) : exec x.row s = .next (s.withDev (d.takeIssued x x.taken)) := by
  cases x <;> exact onLive_live h _

theorem exec_not_issued (h : Live s d) (hx : x ∉ d.issued) : exec x.row s = .next (s.withDev d) := by
  rw [exec_expiry h, Device.takeIssued, if_neg hx]

theorem exec_issued (h : Live s d) (hx : x ∈ d.issued) {d' : Device} (hd : x.taken (d.taking x) = d') :
    exec x.row s = .next (s.withDev d') := by
  rw [exec_expiry h, Device.takeIssued, if_pos hx, ← hd]
  rfl

theorem withDev_self (h : Live s d) : s.withDev d = s := by
  rw [State.withDev, ← h.dev]

end

theorem departed_windowExpires (d : Device) :
    Departed (allAgents.filter fun a => (d.agent a).state = .rejoining) .offline d d.windowExpires := departed_depart ..

/-- Nobody is REJOINING when all REJOINING agents have departed (R179). -/
theorem not_rejoining_windowExpires (d : Device) (a : Agent) : (d.windowExpires.agent a).state ≠ .rejoining := by
  have h := departed_windowExpires d
  by_cases ha : a ∈ allAgents.filter fun a => (d.agent a).state = .rejoining
  · rw [h.gone a ha]
    exact Roster.noConfusion
  · rw [(h.others a ha).1]
    exact fun hst => ha (List.mem_filter.mpr ⟨List.mem_finRange a, decide_eq_true hst⟩)

/-- Settles O25: the expiry is a departure of all REJOINING agents, after which nobody is REJOINING. -/
theorem windowExpiryEndsTheWindow : Obligations.WindowExpiryEndsTheWindow := by
  intro s d hl
  refine ⟨fun hi => ?_, fun hi => (exec_not_issued hl hi).trans (by rw [withDev_self hl])⟩
  have hdep := departed_windowExpires (d.taking .window)
  have hnobody := not_rejoining_windowExpires (d.taking .window)
  exact ⟨_, hdep, hnobody, by rw [hdep.window, if_neg fun ⟨a, ha⟩ => hnobody a ha], exec_issued hl hi rfl⟩

end Sys2Proof.Machine
end

section
/-!
PROOFS. Time (R43 to R46, R50 to R52, R69, R91 to R93, R118, R123, R173): the events that the part brings itself, the term tick
and the expiries.
-/
namespace Sys2Proof.Machine

/-! ### The events that the part brings itself -/

section
variable {s : State} {d : Device}

theorem ownRow_absent (h : s.dev = none) : s.ownRow = none := by
  simp [State.ownRow, h]

theorem ownRow_cmdReset (h : s.dev = some d) (hc : d.cmdReset = true) : s.ownRow = some (.warmResetRelease .command) := by
  simp [State.ownRow, h, hc]

theorem ownRow_held (h : s.dev = some d) (hc : d.cmdReset = false) (hh : s.held = true) : s.ownRow = none := by
  simp [State.ownRow, h, hc, hh]

theorem Live.cmdReset (h : Live s d) : d.cmdReset = false := by
  have := cmdReset_of_not_held h.dev h.free
  rw [this]

theorem ownRow_issued (h : Live s d) {x : Expiry} {rest : List Expiry} (hi : d.issued = x :: rest) :
    s.ownRow = some x.row := by
  simp [State.ownRow, h.dev, h.cmdReset, h.free, hi]

theorem ownRow_quiet (h : Live s d) (hi : d.issued = []) :
    s.ownRow = if d.tickPhase + 1 < d.tickPeriod then none else some .termTick := by
  simp [State.ownRow, h.dev, h.cmdReset, h.free, hi]

theorem step_ownRow (hp : s.pending = []) {i : Instr} (h : s.ownRow = some i) : step s = exec i s := by
  simp [step, hp, h]

theorem step_idle (hp : s.pending = []) (h : s.ownRow = none) : step s = s.onLive Device.refclk := by
  simp [step, hp, h]

theorem onLive_absent (h : s.dev = none) (f : Device → Device) : s.onLive f = .next s := by
  simp [State.onLive, h]

theorem onLive_held (h : s.held = true) (f : Device → Device) : s.onLive f = .next s := by
  unfold State.onLive
  split
  · rfl
  · rw [if_pos h]

end

/-- Settles O2: each clause is one case of `State.ownRow`. -/
theorem emptyQueueBringsTheOwnEvents : Obligations.EmptyQueueBringsTheOwnEvents := by
  intro s hp
  refine ⟨fun d hd hc => step_ownRow hp (ownRow_cmdReset hd hc), fun d x rest hl hi => ?_,
    fun d hl hi => ⟨fun hle => ?_, fun hlt => ?_⟩, ?_⟩
  · rw [step_ownRow hp (ownRow_issued hl hi)]
    cases x <;> rfl
  · exact step_ownRow hp ((ownRow_quiet hl hi).trans (if_neg (Nat.not_lt.mpr hle)))
  · rw [step_idle hp ((ownRow_quiet hl hi).trans (if_pos hlt)), onLive_live hl]
    rfl
  · rintro (hd | ⟨hh, d, hd, hc⟩)
    · rw [step_idle hp (ownRow_absent hd), onLive_absent hd]
    · rw [step_idle hp (ownRow_held hd hc hh), onLive_held hh]

/-! ### What a tick issues (R45) -/

section
variable {d : Device} {e y : EntryIx} {r : Record} {a : Agent} {t : Ticket} {g : GroupIx} {x : Expiry}

theorem count_filterMap_ite {α β : Type} [DecidableEq β] (p : α → Prop) [DecidablePred p] (f : α → β) (l : List α)
    (x : β) :
    (l.filterMap fun h => if p h then some (f h) else none).count x = l.countP fun h => p h ∧ f h = x := by
  induction l with
  | nil => rfl
  | cons h l ih =>
    by_cases hp : p h <;> simp [hp, ih, List.count_cons, List.countP_cons]

theorem count_expiries_term : (r.expiries e).count (.term y a t) =
    if e = y then r.holders.countP fun h => h.agent = a ∧ h.ticket = t ∧ h.remaining = .ms 1 else 0 := by
  by_cases h : e = y <;> simp [Record.expiries, count_filterMap_ite, h, and_comm, and_assoc]

theorem count_expiries_grace : (r.expiries e).count (.grace y a t) =
    if e = y then r.holders.countP fun h => h.agent = a ∧ h.ticket = t ∧ h.grace = some 1 else 0 := by
  by_cases h : e = y <;> simp [Record.expiries, count_filterMap_ite, h, and_comm, and_assoc]

theorem count_expiries_wait : (r.expiries e).count (.wait y a) =
    if e = y then r.queue.countP fun c => c.agent = a ∧ c.deadline = some 1 else 0 := by
  by_cases h : e = y <;> simp [Record.expiries, count_filterMap_ite, h, and_comm]

theorem count_expiries_switch : (r.expiries e).count (.switch g) = 0 := by
  simp [Record.expiries, count_filterMap_ite]

theorem count_expiries_window : (r.expiries e).count .window = 0 := by
  simp [Record.expiries, count_filterMap_ite]

theorem slotValue_zero (s : Option Record) : slotValue (fun _ => 0) s = 0 := by cases s <;> rfl

/-- A number that the records of one entry alone contribute to. -/
theorem sum_slotValue_ite (d : Device) (y : EntryIx) (f : Record → Nat) :
    ∑ e, slotValue (fun r => if e = y then f r else 0) (d.entry e) = slotValue f (d.entry y) := by
  refine (Finset.sum_eq_single y (fun e _ he => ?_) fun hy => absurd (Finset.mem_univ y) hy).trans ?_
  · simp only [if_neg he, slotValue_zero]
  · simp only [if_true]

/-- How often a tick issues an expiry: once for each of its countdowns that stands at 1 (R45). -/
theorem count_expiriesDue (d : Device) (x : Expiry) : d.expiriesDue.count x =
    ∑ e, slotValue (fun r => (r.expiries e).count x) (d.entry e) +
    (allGroups.countP fun g => (d.group g).phase = some (.requesting 1) ∧ .switch g = x) +
    if d.reclaimLeft = some 1 ∧ x = .window then 1 else 0 := by
  have hentries : (allEntries.flatMap fun e => match d.entry e with | some r => r.expiries e | none => []).count x =
      ∑ e, slotValue (fun r => (r.expiries e).count x) (d.entry e) := by
    rw [List.count_flatMap, allEntries, Fin.sum_univ_def]
    refine congrArg List.sum (List.map_congr_left fun e _ => ?_)
    simp only [Function.comp]
    cases d.entry e <;> rfl
  have hwindow : (if d.reclaimLeft = some 1 then [Expiry.window] else []).count x =
      if d.reclaimLeft = some 1 ∧ x = .window then 1 else 0 := by
    by_cases hw : d.reclaimLeft = some 1 <;> by_cases hx : x = .window <;> simp [hw, hx, eq_comm (b := x)]
  rw [Device.expiriesDue, List.count_append, List.count_append, count_filterMap_ite, hwindow]
  exact congrArg (fun n => n + _ + _) hentries

theorem countP_switch (p : GroupIx → Prop) [DecidablePred p] (g : GroupIx) :
    (allGroups.countP fun y => p y ∧ Expiry.switch y = .switch g) = if p g then 1 else 0 := by
  have hiff : ∀ y, (p y ∧ Expiry.switch y = .switch g) ↔ p g ∧ y = g := fun y =>
    ⟨fun ⟨hp, h⟩ => by cases h; exact ⟨hp, rfl⟩, fun ⟨hp, h⟩ => by cases h; exact ⟨hp, rfl⟩⟩
  simp only [hiff]
  by_cases hp : p g
  · simp only [hp, true_and, if_true]
    exact List.count_eq_one_of_mem (List.nodup_finRange 4) (List.mem_finRange g)
  · simp [hp]

theorem count_due_term : d.expiriesDue.count (.term e a t) =
    slotValue (fun r => r.holders.countP fun h => h.agent = a ∧ h.ticket = t ∧ h.remaining = .ms 1) (d.entry e) := by
  rw [count_expiriesDue]
  simp [count_expiries_term, sum_slotValue_ite]

theorem count_due_grace : d.expiriesDue.count (.grace e a t) =
    slotValue (fun r => r.holders.countP fun h => h.agent = a ∧ h.ticket = t ∧ h.grace = some 1) (d.entry e) := by
  rw [count_expiriesDue]
  simp [count_expiries_grace, sum_slotValue_ite]

theorem count_due_wait : d.expiriesDue.count (.wait e a) =
    slotValue (fun r => r.queue.countP fun c => c.agent = a ∧ c.deadline = some 1) (d.entry e) := by
  rw [count_expiriesDue]
  simp [count_expiries_wait, sum_slotValue_ite]

theorem count_due_switch : d.expiriesDue.count (.switch g) = if (d.group g).phase = some (.requesting 1) then 1 else 0 := by
  rw [count_expiriesDue, countP_switch]
  simp [count_expiries_switch, slotValue_zero]

theorem count_due_window : d.expiriesDue.count .window = if d.reclaimLeft = some 1 then 1 else 0 := by
  rw [count_expiriesDue]
  simp [count_expiries_window, slotValue_zero]

end

/-- Settles O51: the tick table by table, and the expiries by how often each is due. -/
theorem tickMovesEveryCountdown : Obligations.TickMovesEveryCountdown := by
  refine ⟨fun s h => h.elim (onLive_absent · _) (onLive_held · _), fun s d hl => ?_⟩
  refine ⟨d.tick, onLive_live hl _, fun e => tget_tabulate .., fun g => ?_, rfl, fun x => ?_, rfl, rfl, rfl⟩
  · rw [group_tick]
    rcases (d.group g).phase with _ | ⟨_ | n⟩ <;> rfl
  · rw [show d.tick.issued = d.issued ++ d.expiriesDue from rfl, List.count_append]
    congr 1
    cases x with
    | term e a t =>
      rw [count_due_term]
      dsimp only
      cases d.entry e <;> rfl
    | wait e a =>
      rw [count_due_wait]
      dsimp only
      cases d.entry e <;> rfl
    | grace e a t =>
      rw [count_due_grace]
      dsimp only
      cases d.entry e <;> rfl
    | switch g => exact count_due_switch
    | window => exact count_due_window

/-! ### Term, wait-limit and grace expiries (R50, R69, R91) -/

section
variable {d : Device} {e : EntryIx} {r : Record} {a : Agent} {t : Ticket} {h : Holder} {c : WaitCell}

theorem named_eq_some (hr : d.entry e = some r) (hn : (r.holders.map (·.agent)).Nodup) (hh : h ∈ r.holders) (ha : h.agent = a)
    (ht : h.ticket = t) : d.named e a t = some h := by
  rw [Device.named, hr]
  refine find?_eq_of_unique hh (by simp [ha, ht]) fun y hy hp => List.inj_on_of_nodup_map hn hy hh ?_
  rw [ha]
  exact (of_decide_eq_true hp).1

/-- The holder record that an expiry names, where it still stands. -/
theorem named_spec (hn : d.named e a t = some h) :
    ∃ r, d.entry e = some r ∧ h ∈ r.holders ∧ h.agent = a ∧ h.ticket = t := by
  obtain ⟨r, hr, hf⟩ := Option.bind_eq_some_iff.mp hn
  exact ⟨r, hr, List.mem_of_find?_eq_some hf, by simpa using List.find?_some hf⟩

theorem termExpires_stands (hr : d.entry e = some r) (hn : d.named e a t = some h) (h0 : h.remaining = .ms 0) :
    d.termExpires e a t = ((d.putRecord e (r.withoutGrant a)).post e a .expired).handOn e := by
  rw [Device.termExpires, hn, ← endGrant_eq hr]
  exact if_pos h0

theorem termExpires_gone (h0 : ∀ r h, d.entry e = some r → h ∈ r.holders → h.agent = a → h.ticket = t → h.remaining ≠ .ms 0) :
    d.termExpires e a t = d := by
  unfold Device.termExpires
  split
  · rfl
  · next h hn =>
    obtain ⟨r, hr, hh, ha, ht⟩ := named_spec hn
    exact if_neg (h0 r h hr hh ha ht)

theorem graceExpires_stands (hr : d.entry e = some r) (hn : d.named e a t = some h) (hk : h.asked = true)
    (h0 : h.grace = some 0) :
    d.graceExpires e a t = ((d.putRecord e (r.withoutGrant a)).post e a .revoked).handOn e := by
  rw [Device.graceExpires, hn, ← endGrant_eq hr]
  exact if_pos ⟨hk, h0⟩

theorem graceExpires_gone (h0 : ∀ r h, d.entry e = some r → h ∈ r.holders → h.agent = a → h.ticket = t →
    h.asked = false ∨ h.grace ≠ some 0) : d.graceExpires e a t = d := by
  unfold Device.graceExpires
  split
  · rfl
  · next h hn =>
    obtain ⟨r, hr, hh, ha, ht⟩ := named_spec hn
    refine if_neg fun ⟨hk, hg⟩ => ?_
    rcases h0 r h hr hh ha ht with hk' | hg'
    · rw [hk] at hk'; cases hk'
    · exact hg' hg

theorem waitExpires_stands (hr : d.entry e = some r) (hc : c ∈ r.queue) (ha : c.agent = a) (h0 : c.deadline = some 0) :
    d.waitExpires e a = ((d.putRecord e (r.withoutCell a)).post e a .waitEnded).handOn e := by
  rw [Device.waitExpires, hr, ← removeCell_eq hr]
  exact if_pos (List.any_eq_true.mpr ⟨c, hc, by simp [ha, h0]⟩)

theorem waitExpires_gone (h0 : ∀ r c, d.entry e = some r → c ∈ r.queue → c.agent = a → c.deadline ≠ some 0) :
    d.waitExpires e a = d := by
  unfold Device.waitExpires
  split
  · rfl
  · next r hr =>
    refine if_neg fun hany => ?_
    obtain ⟨c, hc, hp⟩ := List.any_eq_true.mp hany
    obtain ⟨ha, hd⟩ := of_decide_eq_true hp
    exact h0 r c hr hc ha hd

end

/-- Settles O52: each expiry ends what it names as one write of the record, and hands the entry on. -/
theorem expiriesEndWhatTheyName : Obligations.ExpiriesEndWhatTheyName := by
  refine ⟨fun s d e a t hl => ?_, fun s d e a hl => ?_, fun s d e a t hl => ?_⟩
  · let x : Expiry := .term e a t
    exact ⟨exec_not_issued (x := x) hl, fun hi =>
      ⟨fun h0 => exec_issued (x := x) hl hi (termExpires_gone h0), fun r h hr hn hh ha ht h0 =>
        exec_issued (x := x) hl hi (termExpires_stands hr (named_eq_some hr hn hh ha ht) h0)⟩⟩
  · let x : Expiry := .wait e a
    exact ⟨exec_not_issued (x := x) hl, fun hi =>
      ⟨fun h0 => exec_issued (x := x) hl hi (waitExpires_gone h0), fun r c hr hc ha h0 =>
        exec_issued (x := x) hl hi (waitExpires_stands hr hc ha h0)⟩⟩
  · let x : Expiry := .grace e a t
    exact ⟨exec_not_issued (x := x) hl, fun hi =>
      ⟨fun h0 => exec_issued (x := x) hl hi (graceExpires_gone h0), fun r h hr hn hh ha ht hk h0 =>
        exec_issued (x := x) hl hi (graceExpires_stands hr (named_eq_some hr hn hh ha ht) hk h0)⟩⟩

/-! ### The switch timeout (R123) -/

section
variable {d : Device} {e : EntryIx} {r : Record} {a : Agent} {g : GroupIx} {b : Binding} {c : WaitCell} {k : NoticeKind}

theorem post_putRecord : (d.post e a k).putRecord e r = (d.putRecord e r).post e a k := by
  have hg : ((d.putRecord e r).slot e).generation = (d.slot e).generation := by
    simp [Device.slot]
  unfold Device.post Device.postGen
  rw [hg]
  exact apply_ite (fun x : Device => x.putRecord e r) ..

/-- Nobody is asked on an entry that nobody holds. -/
theorem evaluate_vacant (h : ∀ r, d.entry e = some r → r.holders = []) : d.evaluate e = d := by
  cases hr : d.entry e with
  | none => rw [Device.evaluate, hr]
  | some r => exact evaluate_keep hr fun y hy => by rw [h r hr] at hy; cases hy

/-- A drain leaves an entry that nobody holds, or none. -/
theorem evaluate_checkDrain_vacant (hr : d.entry e = some r) (hh : r.holders = []) :
    (d.checkDrain e).evaluate e = d.checkDrain e := by
  refine evaluate_vacant fun s hs => ?_
  rcases checkDrain_cases d e with h | h
  · rw [h] at hs; cases hs
  · rw [h, hr] at hs
    cases hs
    exact hh

theorem targetCell_some (hn : (r.queue.map (·.agent)).Nodup) (ho : r.occupancy = .switching (.agent a)) (hc : c ∈ r.queue)
    (ha : c.agent = a) (ht : c.target = true) : r.targetCell = some c := by
  rw [Record.targetCell, ho]
  refine find?_eq_of_unique hc (by simp [ha, ht]) fun y hy hp => List.inj_on_of_nodup_map hn hy hc ?_
  rw [ha]
  exact (of_decide_eq_true hp).1

theorem targetCell_none (h : ∀ a, r.occupancy = .switching (.agent a) → ∀ c ∈ r.queue, c.agent = a → c.target = false) :
    r.targetCell = none := by
  cases ht : r.targetCell with
  | none => rfl
  | some c =>
    obtain ⟨ho, hc, hct⟩ := targetCell_eq_some ht
    rw [h c.agent ho c hc rfl] at hct
    cases hct

theorem dropTarget_inFlight {r' : Record} (hr : d.entry e = some r') (ht : r.targetCell = some c)
    (hf : d.inFlightOn c.agent e = true) : d.dropTarget e r =
      (d.putRecord e (r'.withoutCell c.agent)).finish c.agent .request { result := .steerFault, priority := some c.priority } := by
  rw [Device.dropTarget, ht]
  dsimp only
  rw [Device.tellWaiter, if_pos hf, removeCell_eq (d := d.finish ..) hr]
  rfl

theorem dropTarget_told {r' : Record} (hr : d.entry e = some r') (ht : r.targetCell = some c)
    (hf : d.inFlightOn c.agent e = false) :
    d.dropTarget e r = (d.putRecord e (r'.withoutCell c.agent)).post e c.agent .steerFault := by
  rw [Device.dropTarget, ht]
  dsimp only
  rw [Device.tellWaiter, if_neg (by rw [hf]; decide), removeCell_eq ((entry_post ..).trans hr), post_putRecord]

/-- The group of a failed switch (R123). -/
def GroupRec.failed (x : GroupRec) : GroupRec := { x with state := .faulted, settleKnown := false, phase := none }

/-- The entry of a failed switch (R123). -/
def Record.failed (r : Record) : Record := { r with occupancy := .faulted }

/-- The group and the entry of a failed switch written, before the target's agent is told (R123). -/
def Device.switchFailed (d : Device) (g : GroupIx) (e : EntryIx) (r : Record) : Device :=
  (d.setGroup g (d.group g).failed).putRecord e r

theorem entry_switchFailed : (d.switchFailed g e r).entry e = some r := (entry_putRecord ..).trans (if_pos rfl)

theorem switchExpires_eq (hs : (d.group g).state = .switching) (hp : (d.group g).phase = some (.requesting 0))
    (hb : (d.group g).binding = some b) (hr : d.entry b.entry = some r) :
    d.switchExpires g = (((d.switchFailed g b.entry r.failed).dropTarget b.entry r).checkDrain b.entry).evaluate b.entry := by
  rw [Device.switchExpires, if_pos ⟨hs, hp⟩]
  unfold Device.switchFails
  dsimp only
  split
  · next h => rw [hb] at h; cases h
  · next b' h =>
    cases hb.symm.trans h
    split
    · next h => cases hr.symm.trans h
    · next r' h =>
      cases hr.symm.trans h
      rw [modifyEntry_eq_putRecord h]
      rfl

theorem switchExpires_other (h : (d.group g).state ≠ .switching ∨ (d.group g).phase ≠ some (.requesting 0)) :
    d.switchExpires g = d := if_neg fun ⟨hs, hp⟩ => h.elim (· hs) (· hp)

section
variable (hs : (d.group g).state = .switching) (hp : (d.group g).phase = some (.requesting 0))
  (hb : (d.group g).binding = some b) (hr : d.entry b.entry = some r) (hh : r.holders = [])
include hs hp hb hr hh

theorem switchExpires_untargeted (ht : r.targetCell = none) :
    d.switchExpires g = (d.switchFailed g b.entry r.failed).checkDrain b.entry := by
  rw [switchExpires_eq hs hp hb hr, Device.dropTarget, ht]
  exact evaluate_checkDrain_vacant entry_switchFailed hh

theorem switchExpires_inFlight (ht : r.targetCell = some c) (hf : d.inFlightOn c.agent b.entry = true) : d.switchExpires g =
    ((d.switchFailed g b.entry (r.failed.withoutCell c.agent)).finish c.agent .request
      { result := .steerFault, priority := some c.priority }).checkDrain b.entry := by
  rw [switchExpires_eq hs hp hb hr, dropTarget_inFlight entry_switchFailed ht hf, Device.switchFailed, putRecord_putRecord]
  exact evaluate_checkDrain_vacant (d := Device.finish ..) entry_switchFailed hh

theorem switchExpires_told (ht : r.targetCell = some c) (hf : d.inFlightOn c.agent b.entry = false) : d.switchExpires g =
    ((d.switchFailed g b.entry (r.failed.withoutCell c.agent)).post b.entry c.agent .steerFault).checkDrain b.entry := by
  rw [switchExpires_eq hs hp hb hr, dropTarget_told entry_switchFailed ht hf, Device.switchFailed, putRecord_putRecord]
  exact evaluate_checkDrain_vacant ((entry_post ..).trans entry_switchFailed) hh

end

end

/-- Settles O50: a switch whose timeout has run out fails by `switchExpires_eq`, with its target cell or without one. -/
theorem switchTimeoutFaults : Obligations.SwitchTimeoutFaults := by
  intro s d g hl
  let x : Expiry := .switch g
  refine ⟨exec_not_issued (x := x) hl, fun hi => ⟨fun h => exec_issued (x := x) hl hi (switchExpires_other h),
    fun b r hs hp hb hr hh hn => ⟨fun a c ho hc ha ht => ?_, fun h => ?_⟩⟩⟩
  · have htarget := targetCell_some hn ho hc ha ht
    subst ha
    exact ⟨fun hf => exec_issued (x := x) hl hi (switchExpires_inFlight hs hp hb hr hh htarget hf),
      fun hf => exec_issued (x := x) hl hi (switchExpires_told hs hp hb hr hh htarget hf)⟩
  · exact exec_issued (x := x) hl hi (switchExpires_untargeted hs hp hb hr hh (targetCell_none h))

end Sys2Proof.Machine
end

section
/-!
PROOFS. The release of a warm reset (R43, R56, R130, R171, R176): the departures of the release, the drains it completes and the
expiries issued again.
-/
namespace Sys2Proof.Machine

/-! ### The STDONE level as last taken -/

/-- From `d` to `d'` no group's STDONE level, as the steering unit last took it, has changed (R113). -/
structure SameStdone (d d' : Device) : Prop where
  level : ∀ g, (d'.group g).stdone = (d.group g).stdone

section
variable {d d' d'' : Device} {e : EntryIx} {r : Record} {a : Agent} {g : GroupIx} {as : List Agent}

namespace SameStdone

theorem of_groups (h : d'.groups = d.groups) : SameStdone d d' :=
  ⟨fun g => by unfold Device.group; rw [h]⟩

theorem refl (d : Device) : SameStdone d d := ⟨fun _ => rfl⟩

theorem trans (h : SameStdone d d') (h' : SameStdone d' d'') : SameStdone d d'' :=
  ⟨fun g => (h'.level g).trans (h.level g)⟩

theorem foldl {α : Type} {f : Device → α → Device} (hf : ∀ d x, SameStdone d (f d x)) (l : List α) (d : Device) :
    SameStdone d (l.foldl f d) := by
  induction l generalizing d with
  | nil => exact refl d
  | cons x l ih => exact (hf d x).trans (ih _)

theorem setGroup {x : GroupRec} (h : x.stdone = (d.group g).stdone) : SameStdone d (d.setGroup g x) where
  level y := by
    rw [Device.group_setGroup]
    split
    · next hy => rw [h, hy]
    · rfl

theorem modifyEntry (d : Device) (e : EntryIx) (f : Record → Record) : SameStdone d (d.modifyEntry e f) := of_groups rfl

theorem post (d : Device) (e : EntryIx) (a : Agent) (k : NoticeKind) : SameStdone d (d.post e a k) := of_groups (post_groups ..)

theorem grantQueued (d : Device) (e : EntryIx) (c : WaitCell) : SameStdone d (d.grantQueued e c) := of_groups (groups_grantQueued ..)

theorem startSwitch (d : Device) (e : EntryIx) (g : GroupIx) (t : SwitchTarget) : SameStdone d (d.startSwitch e g t) := by
  unfold Device.startSwitch
  split
  · exact refl d
  · refine (modifyEntry d e _).trans (setGroup ?_)
    split <;> rfl

theorem grantDecision (d : Device) (e : EntryIx) : SameStdone d (d.grantDecision e) := by
  unfold Device.grantDecision
  split
  · exact refl d
  · next r hr =>
    split
    · split
      · unfold Device.decideIdle
        split
        · exact refl d
        · split <;> split
          · exact startSwitch ..
          · exact refl d
          · exact of_groups (post_groups ..)
          · exact refl d
      · split
        · unfold Device.decideUpgrade
          split
          · exact of_groups (post_groups ..)
          · exact refl d
        · unfold Device.decideExclusive
          split
          · exact refl d
          · split
            · exact grantQueued ..
            · split
              · exact grantQueued ..
              · exact startSwitch ..
        · unfold Device.decideShared
          split
          · exact refl d
          · exact foldl (fun d c => grantQueued d e c) _ d
    · exact refl d

theorem unbindGroup (d : Device) (g : Option GroupIx) : SameStdone d (d.unbindGroup g) := by
  cases g with
  | none => exact refl d
  | some g => exact setGroup rfl

theorem checkDrain (d : Device) (e : EntryIx) : SameStdone d (d.checkDrain e) := by
  unfold Device.checkDrain
  split
  · exact refl d
  · split
    · exact refl d
    · split
      · exact (unbindGroup ..).trans (of_groups (groups_drain ..))
      · exact refl d

theorem tellAsk (d : Device) (e : EntryIx) (a : Agent) (o : AskOutcome) : SameStdone d (d.tellAsk e a o) := by
  cases o with
  | keep => exact refl d
  | ask => exact post ..
  | withdraw => exact of_groups rfl

theorem evaluate (d : Device) (e : EntryIx) : SameStdone d (d.evaluate e) := by
  unfold Device.evaluate
  split
  · exact refl d
  · exact (modifyEntry d e _).trans (foldl (fun _ _ => tellAsk ..) ..)

theorem departWait (d : Device) (e : EntryIx) (a : Agent) : SameStdone d (d.departWait e a) := by
  rcases departWait_cases d e a with ⟨h, -⟩ | ⟨r, c, -, -, h⟩ <;> rw [h]
  · exact refl d
  · have habort : SameStdone d (d.abortFlight e a c.priority) := by
      unfold Device.abortFlight
      split <;> exact of_groups rfl
    exact (habort.trans (modifyEntry ..)).trans (grantDecision (Device.removeCell ..) e)

theorem departHold (d : Device) (e : EntryIx) (a : Agent) : SameStdone d (d.departHold e a) := by
  rcases departHold_cases d e a with ⟨h, -⟩ | ⟨r, -, -, h⟩ <;> rw [h]
  · exact refl d
  · exact ((modifyEntry ..).trans (grantDecision (d.endGrant e a) e)).trans (checkDrain ..)

theorem departEntry (as : List Agent) (d : Device) (e : EntryIx) : SameStdone d (d.departEntry as e) := by
  unfold Device.departEntry
  split
  · exact ((foldl (fun d a => departWait d e a) as d).trans (foldl (fun d a => departHold d e a) as _)).trans (evaluate ..)
  · exact refl d

theorem depart (d : Device) (as : List Agent) (dest : Roster) : SameStdone d (d.depart as dest) := by
  have hroster : SameStdone d (d.setRosters as .offline) := of_groups (by rw [setRosters_eq])
  rw [depart_eq_departedTo]
  exact (hroster.trans (foldl (departEntry as) allEntries _)).trans (of_groups (by rw [departedTo_eq]; rfl))

end SameStdone

/-! ### RETIRING entries that nobody holds (R104) -/

/-- A RETIRING record with no holders and no switch in flight: its drain completion is due (R104). -/
structure Record.DrainDue (r : Record) : Prop where
  retiring : r.lifecycle ≠ .live
  vacant : r.holders = []
  settled : r.isSwitching = false

theorem Record.DrainDue.undecidable (h : r.DrainDue) : r.decidable = false := by
  simp [Record.decidable, isRetiring_iff.mpr h.retiring]

/-- A drain completion that is due takes the record out of the slot (R105). -/
theorem entry_checkDrain_due (hr : d.entry e = some r) (h : r.DrainDue) : (d.checkDrain e).entry e = none := by
  cases hl : r.lifecycle with
  | live => exact absurd hl h.retiring
  | retiring q m => rw [checkDrain_retiring hr hl, if_pos ⟨h.vacant, h.settled⟩, entry_drain]

/-- Drain completion is due on entry `e`. -/
def Device.DueAt (d : Device) (e : EntryIx) : Prop := ∃ r, d.entry e = some r ∧ r.DrainDue

namespace Device.DueAt

theorem of_entry (he : d'.entry e = d.entry e) (h : d.DueAt e) : d'.DueAt e := by
  unfold Device.DueAt
  rw [he]
  exact h

theorem departWait (h : d.DueAt e) (a : Agent) : (d.departWait e a).DueAt e := by
  obtain ⟨r, hr, hd⟩ := h
  rcases departWait_cases d e a with ⟨hw, -⟩ | ⟨r₀, c, hr₀, -, hw⟩ <;> rw [hw]
  · exact ⟨r, hr, hd⟩
  · have habort : (d.abortFlight e a c.priority).entry e = some r := by rw [entry_of_slots (slots_abortFlight ..), hr]
    have hcell : ((d.abortFlight e a c.priority).removeCell e a).entry e = some (r.withoutCell a) := by
      rw [removeCell_eq habort, entry_putRecord, if_pos rfl]
    have hdue : (r.withoutCell a).DrainDue := ⟨hd.retiring, hd.vacant, hd.settled⟩
    rw [grantDecision_undecidable hcell hdue.undecidable]
    exact ⟨_, hcell, hdue⟩

theorem departHold (h : d.DueAt e) (a : Agent) : d.departHold e a = d := by
  obtain ⟨r, hr, hd⟩ := h
  rcases departHold_cases d e a with ⟨hw, -⟩ | ⟨r₀, hr₀, hh, -⟩
  · exact hw
  · cases hr.symm.trans hr₀
    simp [Record.heldBy, Record.holder, hd.vacant] at hh

theorem foldl {f : Device → Agent → Device} (hf : ∀ d a, d.DueAt e → (f d a).DueAt e) (h : d.DueAt e) (l : List Agent) :
    (l.foldl f d).DueAt e := by
  induction l generalizing d with
  | nil => exact h
  | cons a l ih => exact ih (hf d a h)

theorem evaluate (h : d.DueAt e) : d.evaluate e = d := by
  obtain ⟨r, hr, hd⟩ := h
  refine evaluate_vacant fun s hs => ?_
  cases hr.symm.trans hs
  exact hd.vacant

theorem departEntry_same (h : d.DueAt e) (as : List Agent) : (d.departEntry as e).DueAt e := by
  unfold Device.departEntry
  split
  · have hw := h.foldl (f := fun d a => d.departWait e a) (fun _ a h => h.departWait a) as
    have hh := hw.foldl (f := fun d a => d.departHold e a) (fun _ a h => by rw [h.departHold a]; exact h) as
    rw [hh.evaluate]
    exact hh
  · exact h

theorem departEntry (h : d.DueAt e) (as : List Agent) (y : EntryIx) : (d.departEntry as y).DueAt e := by
  by_cases hy : e = y
  · subst hy
    exact h.departEntry_same as
  · exact h.of_entry ((reaches_departEntry as d y).entry hy)

theorem departEntries (h : d.DueAt e) (as : List Agent) (l : List EntryIx) : (d.departEntries as l).DueAt e := by
  induction l generalizing d with
  | nil => exact h
  | cons y l ih => exact ih (h.departEntry as y)

/-- A departure leaves a drain completion due where it was. -/
theorem depart (h : d.DueAt e) (as : List Agent) (dest : Roster) : (d.depart as dest).DueAt e := by
  rw [depart_eq_departedTo]
  have hroster : (d.setRosters as .offline).DueAt e := h.of_entry (entry_of_slots slots_setRosters e)
  exact (hroster.departEntries as allEntries).of_entry (entry_of_slots (slots_departedTo ..) e)

end Device.DueAt

/-! ### The drains of the release -/

/-- The drain completions of the release, on the entries of a list (R176). -/
def Device.drained (d : Device) (l : List EntryIx) : Device := l.foldl Device.checkDrain d

theorem entry_checkDrain_ne {y : EntryIx} (hy : y ≠ e) : (d.checkDrain e).entry y = d.entry y :=
  (onlyEntry_checkDrain d e).reaches.entry hy

/-- What no drain completion changes, the drains of the release do not. -/
theorem drained_congr {β : Type} (f : Device → β) (hf : ∀ d e, f (d.checkDrain e) = f d) (d : Device) (l : List EntryIx) :
    f (d.drained l) = f d := by
  induction l generalizing d with
  | nil => rfl
  | cons e l ih => exact (ih _).trans (hf d e)

theorem slot_checkDrain_of_live {y : EntryIx} (hr : d.entry e = some r) (hl : r.lifecycle = .live) :
    (d.checkDrain y).slot e = d.slot e := by
  by_cases hy : e = y
  · subst hy
    rw [checkDrain_live hr hl]
  · exact (onlyEntry_checkDrain d y).slots e hy

theorem slot_drained_of_live (hr : d.entry e = some r) (hl : r.lifecycle = .live) (l : List EntryIx) :
    (d.drained l).slot e = d.slot e := by
  induction l generalizing d with
  | nil => rfl
  | cons y l ih =>
    have hs := slot_checkDrain_of_live (y := y) hr hl
    exact (ih (d := d.checkDrain y) (by unfold Device.entry; rw [hs]; exact hr)).trans hs

theorem entry_of_checkDrain {y : EntryIx} (h : (d.checkDrain y).entry e = some r) : d.entry e = some r := by
  by_cases hy : e = y
  · subst hy
    rcases checkDrain_cases d e with hn | hs
    · rw [hn] at h; cases h
    · rwa [hs] at h
  · rwa [entry_checkDrain_ne hy] at h

theorem entry_of_drained {l : List EntryIx} (h : (d.drained l).entry e = some r) : d.entry e = some r := by
  induction l generalizing d with
  | nil => exact h
  | cons y l ih => exact entry_of_checkDrain (ih h)

theorem entry_drained_due (h : d.DueAt e) {l : List EntryIx} (he : e ∈ l) : (d.drained l).entry e = none := by
  induction l generalizing d with
  | nil => cases he
  | cons y l ih =>
    by_cases hy : e = y
    · subst hy
      obtain ⟨r, hr, hd⟩ := h
      cases hn : (d.drained (e :: l)).entry e with
      | none => rfl
      | some s =>
        have := entry_of_drained (l := l) hn
        rw [entry_checkDrain_due hr hd] at this
        cases this
    · exact ih (h.of_entry (entry_checkDrain_ne hy)) ((List.mem_cons.mp he).resolve_left hy)

end

/-! ### Who departs at the release (R140, R176) -/

section
variable {s : State} {d d' : Device} {e : EntryIx} {r : Record} {a : Agent} {p : Pins} {g : GroupIx} {x : Expiry}

theorem reclaims_iff : d.reclaims a = true ↔
    d.recordedState a = .rejoining ∨ d.recordedState a = .online ∧ 1 ≤ d.holdCount a := by
  unfold Device.reclaims
  cases d.recordedState a <;> simp

theorem departsAtRelease_iff : d.departsAtRelease p a = true ↔
    d.reclaims a = true ∧ (d.config.window = 0 ∨ tget p.agrstLow a = true) := by
  simp [Device.departsAtRelease]

/-- The roster state after the release: a departing agent is OFFLINE, the others have the state that the release gives them
(R140, R176). -/
theorem stateReleased_eq (d : Device) (p : Pins) (a : Agent) : stateReleased d p a (d.recordedState a) =
    if d.departsAtRelease p a = true then .offline else d.releasedState a := by
  unfold stateReleased Device.releasedState
  by_cases hf : d.recordedState a = .fenced
  · have hr : d.reclaims a = false := by simp [Device.reclaims, hf]
    simp [hf, departsAtRelease_iff, hr]
  · simp only [hf, if_false, ← reclaims_iff, departsAtRelease_iff]
    by_cases hr : d.reclaims a = true <;> simp [hr]

/-- The agents that depart at the release. -/
def Device.leavers (d : Device) (p : Pins) : List Agent := allAgents.filter fun a => d.departsAtRelease p a

theorem mem_leavers : a ∈ d.leavers p ↔ d.departsAtRelease p a = true := by
  simp [Device.leavers, allAgents]

theorem stateReleased_of_leaver (h : a ∈ d.leavers p) : stateReleased d p a (d.recordedState a) = .offline := by
  rw [stateReleased_eq, if_pos (mem_leavers.mp h)]

theorem departed_release (d : Device) (p : Pins) : Departed (d.leavers p) .offline (d.leaveReset p) (d.releaseDeparted p) :=
  departed_depart ..

theorem agent_releaseDeparted (d : Device) (p : Pins) (a : Agent) :
    (d.releaseDeparted p).agent a = { d.agent a with state := stateReleased d p a (d.recordedState a) } := by
  have h := departed_release d p
  rw [stateReleased_eq]
  by_cases ha : a ∈ d.leavers p
  · rw [h.gone a ha, agent_leaveReset, if_pos (mem_leavers.mp ha)]
  · rw [(h.others a ha).1, agent_leaveReset, if_neg (mem_leavers.not.mp ha)]

theorem releasedChannel_eq (low : Bool) : releasedChannel low = { state := if low then .reset else .ready } := by
  cases low <;> rfl

/-- The departures of the release reach no channel: none is IN_FLIGHT (R171). -/
theorem chan_releaseDeparted (d : Device) (p : Pins) (a : Agent) :
    (d.releaseDeparted p).chan a = { state := if tget p.agrstLow a then .reset else .ready } := by
  have h := departed_release d p
  have hc : ((d.leaveReset p).chan a) = { state := if tget p.agrstLow a then .reset else .ready } := by
    rw [chan_leaveReset, releasedChannel_eq]
  rw [← hc]
  by_cases ha : a ∈ d.leavers p
  · exact h.still a ha (by rw [hc]; dsimp only; split <;> decide)
  · exact (h.others a ha).2

theorem reclaimLeft_releaseDeparted (d : Device) (p : Pins) : (d.releaseDeparted p).reclaimLeft =
    if ∃ a, stateReleased d p a (d.recordedState a) = .rejoining then some d.config.window else none := by
  rw [(departed_release d p).window]
  simp only [agent_releaseDeparted]
  by_cases hex : ∃ a, stateReleased d p a (d.recordedState a) = .rejoining
  · rw [if_pos hex, if_pos hex]
    obtain ⟨a, ha⟩ := hex
    rw [stateReleased_eq] at ha
    split at ha
    · cases ha
    · next hstay =>
      have hrec : d.reclaims a = true := (rejoining_iff_reclaims d a).mp ha
      have hwin : d.config.window ≠ 0 := fun h0 => hstay (departsAtRelease_iff.mpr ⟨hrec, .inl h0⟩)
      exact if_pos ⟨hwin, List.any_eq_true.mpr ⟨a, List.mem_finRange a, hrec⟩⟩
  · rw [if_neg hex, if_neg hex]

/-- A LIVE entry that concerns REJOINING agents alone goes through the departures of the release as it is. -/
theorem slot_releaseDeparted (hk : ∀ a, d.concerns e a = true → stateReleased d p a (d.recordedState a) = .rejoining) :
    (d.releaseDeparted p).slot e = d.slot e := by
  refine ((departed_release d p).untouched e fun a ha => ?_).1
  by_contra hc
  have hr := hk a (Bool.eq_true_of_not_eq_false hc)
  rw [stateReleased_of_leaver ha] at hr
  cases hr

theorem mem_leavers_of_offline (hr : d.recordedState a = .rejoining ∨ d.recordedState a = .online ∧ 1 ≤ d.holdCount a)
    (hs : stateReleased d p a (d.recordedState a) = .offline) : a ∈ d.leavers p := by
  refine mem_leavers.mpr ?_
  by_contra hstay
  rw [stateReleased_eq, if_neg hstay, (rejoining_iff_reclaims d a).mpr (reclaims_iff.mpr hr)] at hs
  cases hs

theorem mem_expiredHolders : x ∈ d.expiredHolders ↔
    ∃ e r h, d.entry e = some r ∧ h ∈ r.holders ∧ h.remaining = .ms 0 ∧ x = .term e h.agent h.ticket := by
  rw [Device.expiredHolders, List.mem_flatMap]
  constructor
  · rintro ⟨e, -, hx⟩
    split at hx
    · cases hx
    · next r hr =>
      obtain ⟨h, hh, hxh⟩ := List.mem_filterMap.mp hx
      split at hxh
      · next h0 => cases hxh; exact ⟨e, r, h, hr, hh, h0, rfl⟩
      · cases hxh
  · rintro ⟨e, r, h, hr, hh, h0, rfl⟩
    refine ⟨e, mem_allEntries e, ?_⟩
    rw [hr]
    exact List.mem_filterMap.mpr ⟨h, hh, if_pos h0⟩

/-! ### The release -/

/-- The device with the expiries of all holder records at 0 issued again (R56). -/
def Device.reissued (d : Device) : Device := { d with issued := d.issued ++ d.expiredHolders }

theorem mem_issued_reissued : x ∈ d.reissued.issued ↔ x ∈ d.issued ∨
    ∃ e r h, d.reissued.entry e = some r ∧ h ∈ r.holders ∧ h.remaining = .ms 0 ∧ x = .term e h.agent h.ticket :=
  List.mem_append.trans (or_congr_right mem_expiredHolders)

theorem warmRelease_eq_reissued (d : Device) (p : Pins) :
    d.warmRelease p = ((d.releaseDeparted p).drained allEntries).reissued := rfl

/-- The device at a release that drains the entries of a list in which all stand. -/
theorem released_drained (d : Device) (p : Pins) {l : List EntryIx} (hall : ∀ e, e ∈ l) :
    Released p d.recordedState d ((d.releaseDeparted p).drained l).reissued := by
  have hdep := departed_release d p
  have hboard : SameBoard (d.releaseDeparted p) ((d.releaseDeparted p).drained l) := sameBoard_drained ..
  have hstdone : SameStdone (d.leaveReset p) ((d.releaseDeparted p).drained l) :=
    (SameStdone.depart ..).trans (.foldl .checkDrain l _)
  exact
    { agents := fun a => (agent_of_agents hboard.agents a).trans (agent_releaseDeparted d p a)
      channels := fun a => (chan_of_channels (drained_congr (·.channels) (fun d e => (onlyEntry_checkDrain d e).channels) ..) a).trans
        (chan_releaseDeparted d p a)
      sampled := fun g => (hstdone.level g).trans (by rw [group_leaveReset])
      window := hboard.reclaimLeft.trans (reclaimLeft_releaseDeparted d p)
      kept := fun e r hr hl hk => by
        have hslot := slot_releaseDeparted hk
        exact (slot_drained_of_live (by unfold Device.entry; rw [hslot]; exact hr) hl l).trans hslot
      departed := fun a hrec hst e r hr => hdep.nothing a (mem_leavers_of_offline hrec hst) e r (entry_of_drained hr)
      drained := fun e r hr hl hh hs =>
        have hdue : (d.leaveReset p).DueAt e := ⟨r, hr, hl, hh, hs⟩
        entry_drained_due (hdue.depart (d.leavers p) .offline) (hall e)
      expiries := fun x => by rw [mem_issued_reissued, hboard.issued, hdep.issued]; rfl
      tickPhase := (drained_congr (·.tickPhase) (fun d e => (onlyEntry_checkDrain d e).tickPhase) ..).trans hdep.tickPhase
      tickPeriod := (drained_congr (·.tickPeriod) (fun d e => (onlyEntry_checkDrain d e).tickPeriod) ..).trans hdep.tickPeriod
      recorded := hboard.recorded.trans hdep.recorded
      cmdReset := hboard.cmdReset.trans hdep.cmdReset
      boot := hboard.boot.trans hdep.boot
      config := hboard.config.trans hdep.config }

/-- The device at the release, from the departures of the release and the drains it completes (R176). -/
theorem released_warmRelease (d : Device) (p : Pins) : Released p d.recordedState d (d.warmRelease p) := by
  rw [warmRelease_eq_reissued]
  exact released_drained d p mem_allEntries

/-! ### The end of a cause (R172, R173) -/

theorem exec_release_present {c : PinCause} (h : s.pins.cause c = true) :
    exec (.warmResetRelease (.pin c)) s = .next ({ s with pins := s.pins.setCause c false } : State).afterCause := if_pos h

theorem exec_release_absent {c : PinCause} (h : s.pins.cause c = false) : exec (.warmResetRelease (.pin c)) s = .next s :=
  if_neg (by rw [h]; decide)

theorem exec_release_command (hd : s.dev = some d) (hc : d.cmdReset = true) : exec (.warmResetRelease .command) s =
    .next (s.withDev { d with cmdReset := false }).afterCause := by
  simp [exec, execWarmResetRelease, hd, hc]

theorem exec_release_uncommanded (h : ∀ d, s.dev = some d → d.cmdReset = false) : exec (.warmResetRelease .command) s = .next s := by
  simp only [exec, execWarmResetRelease]
  split
  · rfl
  · next d hd => rw [if_neg (by rw [h d hd]; decide)]

theorem afterCause_held (h : s.held = true) : s.afterCause = s := if_pos h

theorem afterCause_absent (h : s.dev = none) : s.afterCause = s := by
  unfold State.afterCause
  split
  · rfl
  · obtain ⟨pins, dev, pending⟩ := s
    cases h
    rfl

theorem afterCause_last (hd : s.dev = some d) (h : s.held = false) : s.afterCause = s.withDev (d.warmRelease s.pins) := by
  simp [State.afterCause, h, hd]

end

/-- A cause on the board that ends is noted, and releases the reset where it was the last one (R172, R176). -/
theorem exec_release_pin {s : State} {c : PinCause} (hp : s.pins.cause c = true) :
    (s.dev = none ∨ ({ s with pins := s.pins.setCause c false } : State).held = true →
      exec (.warmResetRelease (.pin c)) s = .next { s with pins := s.pins.setCause c false }) ∧
    ∀ d, s.dev = some d → ({ s with pins := s.pins.setCause c false } : State).held = false →
      ∃ d₂, Released (s.pins.setCause c false) d.recordedState d d₂ ∧
        exec (.warmResetRelease (.pin c)) s = .next { s with pins := s.pins.setCause c false, dev := some d₂ } := by
  rw [exec_release_present hp]
  exact ⟨fun h => congrArg _ (h.elim (fun hd => afterCause_absent hd) afterCause_held), fun d hd hh =>
    ⟨_, released_warmRelease d _, congrArg _ (afterCause_last hd hh)⟩⟩

/-- Settles O54: a cause noted, and the last one's end as `released_warmRelease` has it. -/
theorem warmResetReleasesWithTheLastCause : Obligations.WarmResetReleasesWithTheLastCause := by
  refine ⟨fun s c => ?_, fun s => ⟨exec_release_uncommanded, fun d hd hc => ⟨fun hh => ?_, fun hn hs => ?_⟩⟩⟩
  · cases c with
    | nreset => exact ⟨exec_release_absent (c := .nreset), exec_release_pin (c := .nreset)⟩
    | coreSupply => exact ⟨exec_release_absent (c := .coreSupply), exec_release_pin (c := .coreSupply)⟩
  · rw [exec_release_command hd hc, afterCause_held]
    simpa [State.held, Pins.holdsReset] using hh
  · refine ⟨_, released_warmRelease { d with cmdReset := false } s.pins, ?_⟩
    rw [exec_release_command hd hc, afterCause_last rfl]
    simp [State.held, Pins.holdsReset, hn, hs]

end Sys2Proof.Machine
end

section
/-!
PROOFS. The wait pool, the wait queues and the grant decision (R58, R61, R62, R70 to R75, R103, R117, R118, R134, R151): what
every step keeps, the switch and the automatic grant that the decision brings, and that one run leaves nothing to grant.
-/
namespace Sys2Proof.Machine

/-- Settles O57: the pool and the order are kept by the operations a step is made of, and a safe state steps to a safe state,
whose queues are served and whose quotas are kept. -/
theorem stepsKeepThePoolAndTheQueues : Obligations.StepsKeepThePoolAndTheQueues := fun _ _ h =>
  ⟨holds_step poolBounded_cold (fun _ _ hk _ => hk.pool) h, holds_step queuesOrdered_cold (fun _ _ hk _ => hk.queues) h,
    fun hs => have ht := safe_step hs h; ⟨ht.served, ht.quotas⟩⟩

section
variable {d : Device} {e : EntryIx} {r : Record} {g : GroupIx} {b : Binding} {c : WaitCell} {q : List WaitCell}

/-! ### The switch that the decision starts (R72, R74, R117, R118) -/

theorem grantDecision_nil (hr : d.entry e = some r) (hd : r.decidable = true) (hq : r.queue = []) :
    d.grantDecision e = d.decideIdle e r := by
  simp [Device.grantDecision, hr, hd, hq]

theorem connects_iff {x : GroupRec} {a : Agent} : x.connects a = true ↔ x.select = .agent a ∧ x.settleKnown = true := by
  simp [GroupRec.connects]

theorem homeDue_iff {x : GroupRec} (hb : x.binding = some b) :
    x.homeDue = true ↔ b.parkPolicy = .home ∧ x.select ≠ b.home := by
  simp [GroupRec.homeDue, hb]

/-- An EXCLUSIVE head that the group does not connect starts the switch to its agent (R72). -/
theorem grantDecision_toward_head (hr : d.entry e = some r) (hd : r.decidable = true) (hh : r.holders = [])
    (hg : r.group = some g) (hq : r.queue = c :: q) (hm : c.mode = .exclusive)
    (hn : ¬ ((d.group g).select = .agent c.agent ∧ (d.group g).settleKnown = true)) :
    d.grantDecision e = d.startSwitch e g (.agent c.agent) := by
  rw [(grantDecision_cons hr hd hq).2.1 hm, Device.decideExclusive, if_neg (not_not.mpr hh), hg]
  exact if_neg (mt connects_iff.mp hn)

/-- An entry that nobody holds or waits for starts the switch to a home that is due (R74). -/
theorem grantDecision_toward_home (hr : d.entry e = some r) (hd : r.decidable = true) (hh : r.holders = [])
    (hg : r.group = some g) (hq : r.queue = []) (hb : (d.group g).binding = some b)
    (hdue : b.parkPolicy = .home ∧ (d.group g).select ≠ b.home) : d.grantDecision e = d.startSwitch e g .home := by
  rw [grantDecision_nil hr hd hq, Device.decideIdle, if_neg (not_not.mpr hh), hg]
  exact if_pos ((homeDue_iff hb).mpr hdue)

theorem flagged_eq (t : SwitchTarget) (c : WaitCell) :
    flagged t c = if t = .agent c.agent then { c with target := true } else c := by
  cases t with
  | home => rfl
  | agent a => simp [flagged, eq_comm]

/-- Settles O16: the decision starts one switch, toward the head's agent or toward home, and the switch is two writes. -/
theorem grantDecisionStartsASwitch : Obligations.GrantDecisionStartsASwitch := by
  intro d e r g b t hr hd hh hg hb hcause
  have hstart : d.grantDecision e = d.startSwitch e g t := by
    rcases hcause with ⟨c, q, hq, hm, rfl, hn⟩ | ⟨hq, rfl, hdue⟩
    · exact grantDecision_toward_head hr hd hh hg hq hm hn
    · exact grantDecision_toward_home hr hd hh hg hq hb hdue
  have hflag : markTarget t r.queue = r.queue.map fun x => if t = .agent x.agent then { x with target := true } else x := by
    rw [markTarget_eq]
    exact List.map_congr_left fun x _ => flagged_eq t x
  rw [hstart, startSwitch_eq hb hr, hflag]
  cases t <;> rfl

/-! ### The control lease (R74, R151) -/

theorem bootEligible_iff : d.bootEligible = true ↔
    (d.agent d.boot).state = .online ∧ d.holdCount d.boot + d.nonUpgradeWaits d.boot < (d.agent d.boot).holdQuota := by
  simp [Device.bootEligible, Device.belowHoldQuota, Device.Online]

/-- The decision of an unsteered entry that nobody holds or waits for (R74). -/
theorem grantDecision_unsteered (hr : d.entry e = some r) (hd : r.decidable = true) (hg : r.group = none)
    (hh : r.holders = []) (hq : r.queue = []) :
    d.grantDecision e = if (e = 0 && d.bootEligible) = true then d.grantControlLease else d := by
  rw [grantDecision_nil hr hd hq, Device.decideIdle, if_neg (not_not.mpr hh), hg]

/-- Settles O17: the two cases of the one test that the decision makes on such an entry. -/
theorem controlLeaseGoesToTheBootAgent : Obligations.ControlLeaseGoesToTheBootAgent := by
  intro d e r hr hd hg hh hq
  rw [grantDecision_unsteered hr hd hg hh hq]
  refine ⟨fun he ho hquota => ?_, fun hno => if_neg fun h => ?_⟩
  · subst he
    rw [if_pos (by simp [bootEligible_iff.mpr ⟨ho, hquota⟩]), Device.grantControlLease, newGrant_eq hr, Record.withHolder, hh]
    rfl
  · obtain ⟨he, hb⟩ := Bool.and_eq_true_iff.mp h
    obtain ⟨ho, hquota⟩ := bootEligible_iff.mp hb
    rcases hno with hno | hno | hno
    · exact hno (of_decide_eq_true he)
    · exact hno ho
    · exact absurd hquota (not_lt.mpr hno)

/-! ### One pass (R75) -/

/-- The decision has nothing to do on a record: it does not run there (R70), or somebody holds the entry and the head, if there
is one, is blocked. -/
def Record.AtRest (r : Record) : Prop := r.decidable = false ∨ (r.holders ≠ [] ∧ r.HeadBlocked)

theorem grantDecision_atRest (hr : d.entry e = some r) (h : r.AtRest) : d.grantDecision e = d := by
  rcases Bool.eq_false_or_eq_true r.decidable with hd | hd
  · obtain ⟨hh, hb⟩ := h.resolve_left (by simp [hd])
    cases hq : r.queue with
    | nil => rw [grantDecision_nil hr hd hq, Device.decideIdle, if_pos hh]
    | cons c q => exact grantDecision_blocked hr hd hq hb
  · exact grantDecision_undecidable hr hd

/-- A sole EXCLUSIVE holder that waits for nothing blocks every head (R71 to R73). -/
theorem atRest_of_sole {h : Holder} (hh : r.holders = [h]) (hm : h.mode = .exclusive) (hw : r.waitedBy h.agent = false) :
    r.AtRest := by
  refine .inr ⟨by simp [hh], fun c q hq => ?_⟩
  have hc : c ∈ r.queue := by rw [hq]; exact List.mem_cons_self
  cases c.mode with
  | upgrade => simpa [hh] using (waitedBy_eq_false.mp hw c hc).symm
  | exclusive => simp [hh]
  | shared => exact ⟨h, by simp [hh], hm⟩

theorem atRest_grant (hh : r.holders = []) (hm : c.mode = .exclusive) (t : Ticket) : (r.grant c t).AtRest :=
  atRest_of_sole (h := c.granted r t) (congrArg (· ++ [c.granted r t]) hh) (by simp [WaitCell.granted, hm])
    (waitedBy_withoutCell r c.agent)

/-- The sole holder whose record its UPGRADE cell converted has no cell left (R71). -/
theorem atRest_upgraded {a : Agent} (ha : r.holders.map (·.agent) = [a]) (t : Ticket) (p : Priority) (m : Term) :
    ((r.withoutCell a).converted a t p m).AtRest := by
  obtain ⟨h, hh, hha⟩ := List.map_eq_singleton_iff.mp ha
  rw [converted_sole (r := r.withoutCell a) hh hha]
  exact atRest_of_sole rfl rfl (waitedBy_withoutCell r a)

/-- Behind the SHARED batch stands an EXCLUSIVE cell, an UPGRADE cell of an agent that is not the sole holder, or none: the
first cell of the batch has become a holder (R73). -/
theorem atRest_of_batch {r' : Record} (hn : (r.queue.map (·.agent)).Nodup) (hc : c ∈ r.queue.takeWhile fun x => x.mode = .shared)
    (hheld : c.agent ∈ r'.holders.map (·.agent)) (hq : r'.queue = r.queue.dropWhile fun x => x.mode = .shared) : r'.AtRest := by
  have hne : r'.holders ≠ [] := List.map_eq_nil_iff.not.mp (List.ne_nil_of_mem hheld)
  refine .inr ⟨hne, fun x q hxq => ?_⟩
  rw [hq] at hxq
  cases hm : x.mode with
  | shared => exact absurd hm (mode_of_dropWhile hxq)
  | exclusive => exact hne
  | upgrade =>
    intro h1
    rw [h1, List.mem_singleton] at hheld
    rw [← List.takeWhile_append_dropWhile (p := fun x : WaitCell => decide (x.mode = .shared)) (l := r.queue),
      List.map_append] at hn
    refine List.disjoint_of_nodup_append hn (List.mem_map_of_mem hc) (hheld ▸ List.mem_map_of_mem ?_)
    rw [hxq]
    exact List.mem_cons_self

/-- The entry is at rest in `d'`, or nothing has changed from `d`. -/
def Device.RestsAt (d : Device) (e : EntryIx) (d' : Device) : Prop := d' = d ∨ ∃ r, d'.entry e = some r ∧ r.AtRest

theorem restsAt_startSwitch (hr : d.entry e = some r) (g : GroupIx) (t : SwitchTarget) : d.RestsAt e (d.startSwitch e g t) := by
  cases hb : (d.group g).binding with
  | none => exact .inl (by simp [Device.startSwitch, hb])
  | some b => exact .inr ⟨_, entry_startSwitch hr hb, .inl (not_decidable_of_switching rfl)⟩

theorem restsAt_decideIdle (hr : d.entry e = some r) (hq : r.queue = []) : d.RestsAt e (d.decideIdle e r) := by
  unfold Device.decideIdle
  split
  · exact .inl rfl
  · split
    · split
      · exact restsAt_startSwitch hr _ _
      · exact .inl rfl
    · split
      · next h =>
        have he : e = 0 := of_decide_eq_true (Bool.and_eq_true_iff.mp h).1
        subst he
        exact .inr ⟨_, (entry_post ..).trans (replaces_newGrant hr ..).entry_same, .inr ⟨by simp [Record.withHolder],
          headBlocked_nil hq⟩⟩
      · exact .inl rfl

theorem restsAt_decideUpgrade (hr : d.entry e = some r) (c : WaitCell) : d.RestsAt e (d.decideUpgrade e r c) := by
  unfold Device.decideUpgrade
  split
  · next ha => exact .inr ⟨_, (entry_post ..).trans (replaces_upgrade hr ..).entry_same, atRest_upgraded ha ..⟩
  · exact .inl rfl

theorem restsAt_decideExclusive (hr : d.entry e = some r) (hm : c.mode = .exclusive) :
    d.RestsAt e (d.decideExclusive e r c) := by
  unfold Device.decideExclusive
  split
  · exact .inl rfl
  · next hh =>
    have granted : d.RestsAt e (d.grantQueued e c) := .inr ⟨_, entry_grantQueued hr c, atRest_grant (not_not.mp hh) hm _⟩
    split
    · exact granted
    · split
      · exact granted
      · exact restsAt_startSwitch hr _ _

theorem restsAt_decideShared (hr : d.entry e = some r) (hn : (r.queue.map (·.agent)).Nodup) (hq : r.queue = c :: q)
    (hm : c.mode = .shared) : d.RestsAt e (d.decideShared e r) := by
  unfold Device.decideShared
  split
  · exact .inl rfl
  · obtain ⟨r', hr', hq', -, -, hnew⟩ := entry_shares (r.queue.takeWhile fun x => x.mode = .shared)
      (r.queue.dropWhile fun x => x.mode = .shared) hr List.takeWhile_append_dropWhile.symm hn
    have hc : c ∈ r.queue.takeWhile fun x => x.mode = .shared := by simp [hq, hm]
    exact .inr ⟨r', hr', atRest_of_batch hn hc (hnew c hc) hq'⟩

/-- A run of the decision brings the entry to rest or finds nothing to do (R75). -/
theorem restsAt_grantDecision (hr : d.entry e = some r) (hn : (r.queue.map (·.agent)).Nodup) :
    d.RestsAt e (d.grantDecision e) := by
  rcases Bool.eq_false_or_eq_true r.decidable with hd | hd
  · cases hq : r.queue with
    | nil => rw [grantDecision_nil hr hd hq]; exact restsAt_decideIdle hr hq
    | cons c q =>
      obtain ⟨hu, hx, hs⟩ := grantDecision_cons hr hd hq
      cases hm : c.mode with
      | upgrade => rw [hu hm]; exact restsAt_decideUpgrade hr c
      | exclusive => rw [hx hm]; exact restsAt_decideExclusive hr hm
      | shared => rw [hs hm]; exact restsAt_decideShared hr hn hq hm
  · exact .inl (grantDecision_undecidable hr hd)

/-- Settles O18: the second run finds the entry at rest, or as the first one found it. -/
theorem grantDecisionIsOnePass : Obligations.GrantDecisionIsOnePass := by
  intro d e r hr hn
  rcases restsAt_grantDecision hr hn with h | ⟨r', hr', hrest⟩
  · rw [h, h]
  · exact grantDecision_atRest hr' hrest

end

end Sys2Proof.Machine
end

section
/-!
PROOFS. A REQUEST that waits or goes IN_FLIGHT (R58, R59, R61, R63, R117, R118, R121): its two refusals, the place of its cell in
the queue, and the switch toward its agent.
-/
namespace Sys2Proof.Machine

section
variable {s : State} {d d₁ : Device} {ch : Agent} {w : Writes} {e : EntryIx} {r : Record} {m : WaitMode} {q : Priority}
  {t : Term} {v : Vector Channel 8} {g : GroupIx} {c : Claim}

/-! ### The refusals on the way into a queue (R58, R60) -/

theorem waitRefusal_waitQuota {a : Agent} (h : (d.agent a).waitQuota ≤ d.waitCount a) : waitRefusal d a = some .waitQuota :=
  if_pos h

theorem waitRefusal_queueFull {a : Agent} (h : d.waitCount a < (d.agent a).waitQuota) (hp : 64 ≤ d.cellsInUse) :
    waitRefusal d a = some .queueFull := by
  rw [waitRefusal, if_neg (not_le.mpr h)]
  exact if_pos hp

theorem waitRefusal_none {a : Agent} (h : d.waitCount a < (d.agent a).waitQuota) (hp : d.cellsInUse < 64) :
    waitRefusal d a = none := by
  rw [waitRefusal, if_neg (not_le.mpr h)]
  exact if_neg (not_le.mpr hp)

/-- A claim that waits or goes IN_FLIGHT is refused by the wait quota and the pool, with nothing changed (R63). -/
theorem decideClaim_refused {code : ResultCode} (hw : waitRefusal d c.agent = some code)
    (ho : (claimOutcome d r c = .wait ∧ c.waitLimit ≠ 0) ∨ ∃ g, claimOutcome d r c = .inFlight g) :
    decideClaim d e r c = withPriority d c code := by
  rcases ho with ⟨ho, h0⟩ | ⟨g, ho⟩
  · simp [decideClaim, ho, takeWait, h0, hw]
  · simp [decideClaim, ho, takeInFlight, hw]

/-- The answer of such a REQUEST, whatever the channels hold. -/
theorem exec_request_waitRefused (hs : StartsOnline s d ch .request w d₁) (hn : RequestNames d₁ ch e r m q t)
    (hp : RequestPasses d₁ ch r m) {code : ResultCode} (hw : waitRefusal d₁ ch = some code)
    (ho : ∀ v, (claimOutcome (d₁.withChannels v) r (claimOf d₁ ch m q t) = .wait ∧ (d₁.params ch).waitlim.toNat ≠ 0) ∨
      ∃ g, claimOutcome (d₁.withChannels v) r (claimOf d₁ ch m q t) = .inFlight g) :
    exec (.request ch w) s = .next (s.withDev (d₁.answered ch .request
      { result := code, priority := some (min q (d₁.agent ch).cap) })) :=
  exec_request hs rfl fun v =>
    (takeRequest_passed hn hp.not_refused).trans (decideClaim_refused (c := claimOf d₁ ch m q t) hw (ho v))

/-! ### The place of a cell (R61) -/

theorem enqueue_eq (hr : d.entry e = some r) (c : WaitCell) :
    d.enqueue e c = d.putRecord e { r with queue := insertCell c r.queue } := modifyEntry_eq_putRecord hr _

/-- The cell `x` stays ahead of a cell `c` that comes into its queue: `c` is no UPGRADE cell, and `x` is one or has at least the
priority of `c` (R61). -/
def WaitCell.precedes (x c : WaitCell) : Bool := decide (c.mode ≠ .upgrade ∧ (x.mode = .upgrade ∨ c.priority ≤ x.priority))

theorem insertCell_eq (c : WaitCell) (l : List WaitCell) :
    insertCell c l = l.takeWhile (·.precedes c) ++ c :: l.dropWhile (·.precedes c) := by
  induction l with
  | nil => rfl
  | cons x l ih =>
    rw [insertCell]
    by_cases hm : c.mode = .upgrade
    · simp [hm, WaitCell.precedes]
    · by_cases hx : x.mode = .upgrade ∨ c.priority ≤ x.priority
      · rw [if_neg hm, if_pos hx, ih, List.takeWhile_cons_of_pos (by simp [WaitCell.precedes, hm, hx]),
          List.dropWhile_cons_of_pos (by simp [WaitCell.precedes, hm, hx]), List.cons_append]
      · rw [if_neg hm, if_neg hx, List.takeWhile_cons_of_neg (by simp [WaitCell.precedes, hx]),
          List.dropWhile_cons_of_neg (by simp [WaitCell.precedes, hx]), List.nil_append]

/-- A claim that waits takes its place in the queue, and the entry is handed on (R63). -/
theorem decideClaim_queued (hr : d.entry e = some r) (ho : claimOutcome d r c = .wait) (h0 : c.waitLimit ≠ 0)
    (hw : waitRefusal d c.agent = none) : decideClaim d e r c =
      withPriority ((d.putRecord e { r with queue := insertCell c.cell r.queue }).handOn e) c .queued := by
  simp [decideClaim, ho, takeWait, h0, hw, enqueue_eq hr]

/-- Settles O39: a claim that is not served at once waits; the refusals come first, and its cell goes where `insertCell_eq` has
it. -/
theorem requestQueued : Obligations.RequestQueued := by
  intro s d d₁ ch w e r m q t hs hn hp hserved hlimit clamped ends cell ahead
  have hwait : ∀ v, claimOutcome (d₁.withChannels v) r (claimOf d₁ ch m q t) = .wait := fun v => claimOutcome_wait hserved
  have h0 : (d₁.params ch).waitlim.toNat ≠ 0 := hlimit.ne'
  refine ⟨fun h => ?_, fun h hpool => ?_, fun h hpool => exec_request hs (channels_handOn ..) fun v => ?_⟩
  · exact exec_request_waitRefused hs hn hp (waitRefusal_waitQuota h) fun v => .inl ⟨hwait v, h0⟩
  · exact exec_request_waitRefused hs hn hp (waitRefusal_queueFull h hpool) fun v => .inl ⟨hwait v, h0⟩
  · have hplace : insertCell cell r.queue = r.queue.takeWhile ahead ++ cell :: r.queue.dropWhile ahead := insertCell_eq ..
    rw [takeRequest_passed hn hp.not_refused,
      decideClaim_queued (d := d₁.withChannels v) (c := claimOf d₁ ch m q t) (lookup_entry hn.entry) (hwait v) h0
        (waitRefusal_none h hpool),
      ← hplace, putRecord_withChannels, handOn_withChannels]
    rfl

/-! ### IN_FLIGHT (R121) -/

theorem claimOutcome_inFlight (hm : c.mode = .exclusive) (ho : r.occupancy = .idle) (hq : r.queue = []) (hg : r.group = some g)
    (hn : ¬ ((d.group g).select = .agent c.agent ∧ (d.group g).settleKnown = true)) :
    claimOutcome d r c = .inFlight g := by
  unfold claimOutcome
  rw [hm]
  dsimp only
  rw [if_pos ⟨ho, hq⟩, hg]
  exact if_neg (mt connects_iff.mp hn)

/-- The record of an idle entry on which the claim `c` has gone IN_FLIGHT: its flagged cell is the queue (R121). -/
def Record.inFlight (r : Record) (c : Claim) : Record :=
  { r with occupancy := .switching (.agent c.agent), queue := [c.targetCell] }

/-- The cell of an IN_FLIGHT claim is flagged from the start, so the start of the switch leaves it as it is. -/
theorem startingSwitch_inFlight (hq : r.queue = []) (c : Claim) :
    ({ r with queue := insertCell c.targetCell r.queue } : Record).startingSwitch (.agent c.agent) = r.inFlight c := by
  simp [Record.startingSwitch, Record.inFlight, hq, insertCell, markTarget, Claim.targetCell]

/-- The flagged cell enqueued and the switch to its agent started are one write of the entry and one of the group. -/
theorem startSwitch_enqueue_target {b : Binding} (hr : d.entry e = some r) (hq : r.queue = [])
    (hb : (d.group g).binding = some b) (c : Claim) :
    (d.enqueue e c.targetCell).startSwitch e g (.agent c.agent) =
      (d.putRecord e (r.inFlight c)).setGroup g ((d.group g).starting b (.agent c.agent)) := by
  rw [startSwitch_eq_starting (d := d.enqueue e c.targetCell) hb (entry_enqueue hr _), enqueue_eq hr,
    startingSwitch_inFlight hq, putRecord_putRecord, group_putRecord]

/-- A claim that goes IN_FLIGHT writes its entry, the group and its channel, and completes nothing; nobody holds the entry, so
nobody is asked (R117, R121). -/
theorem decideClaim_inFlight {b : Binding} (hr : d.entry e = some r) (hh : r.holders = []) (hq : r.queue = [])
    (hb : (d.group g).binding = some b) (ho : claimOutcome d r c = .inFlight g) (hw : waitRefusal d c.agent = none) :
    decideClaim d e r c =
      (((d.putRecord e (r.inFlight c)).setGroup g ((d.group g).starting b (.agent c.agent))).setChan c.agent
        { d.chan c.agent with state := .inFlight }, none) := by
  have hvacant : ∀ r', ((d.enqueue e c.targetCell).startSwitch e g (.agent c.agent)).entry e = some r' → r'.holders = [] := by
    intro r' h
    cases (entry_startSwitch (d := d.enqueue e c.targetCell) (entry_enqueue hr _) hb).symm.trans h
    exact hh
  have hswitch := (evaluate_vacant hvacant).trans (startSwitch_enqueue_target hr hq hb c)
  simp only [decideClaim, ho, takeInFlight, hw, hswitch]
  rfl

/-- What a REQUEST without a completion leaves, where its rule does the same whatever the channels hold: the channel as it was
started, IN_FLIGHT. -/
theorem exec_request_unanswered (hs : StartsOnline s d ch .request w d₁) {d' : Device} (hc : d'.channels = d₁.channels)
    (ht : ∀ v, takeRequest ch ((d₁.params ch).latch .request) (d₁.withChannels v) =
      ((d'.withChannels v).setChan ch { tget v ch with state := .inFlight }, none)) :
    exec (.request ch w) s =
      .next (s.withDev (d'.setChan ch { (d₁.chan ch).start .request with state := .inFlight })) := by
  change exec (commandRow .request ch w) s = _
  rw [exec_commandRow, onLive_live hs.starts.live, commandWrite_online hs rfl, started_eq]
  change Host.Outcome.next (s.withDev (writeBack ch .request (takeRequest _ _ _))) = _
  rw [ht]
  simp [writeBack, Device.setChan, Device.withChannels, hc]

/-- Settles O40: the refusals of a claim that would go IN_FLIGHT, and the device of one that does; the channel was started with
the latched REQUEST. -/
theorem requestGoesInFlight : Obligations.RequestGoesInFlight := by
  intro s d d₁ ch w e r q t g b hs hn hp ho hh hq hg hb hcon clamped ends
  have hout : ∀ v, claimOutcome (d₁.withChannels v) r (claimOf d₁ ch .exclusive q t) = .inFlight g := fun v =>
    claimOutcome_inFlight rfl ho hq hg hcon
  refine ⟨fun h => ?_, fun h hpool => ?_, fun h hpool => ?_⟩
  · exact exec_request_waitRefused hs hn hp (waitRefusal_waitQuota h) fun v => .inr ⟨g, hout v⟩
  · exact exec_request_waitRefused hs hn hp (waitRefusal_queueFull h hpool) fun v => .inr ⟨g, hout v⟩
  · exact exec_request_unanswered hs rfl fun v => (takeRequest_passed hn hp.not_refused).trans <|
      decideClaim_inFlight (d := d₁.withChannels v) (c := claimOf d₁ ch .exclusive q t) (lookup_entry hn.entry) hh hq hb
        (hout v) (waitRefusal_none h hpool)

end

end Sys2Proof.Machine
end

section
/-!
PROOFS. FORCE RELEASE (R92, R93, R95, R96).
-/
namespace Sys2Proof.Machine

section
variable {s : State} {d d₁ : Device} {ch a : Agent} {w : Writes} {e : EntryIx} {r : Record} {p : Params}

/-- A control command refused at once: its rule answers `code` and leaves the device, whatever the channels hold. -/
theorem exec_control_refused {c : Cmd} (h : StartsControl s d ch c w d₁) {code : ResultCode}
    (ht : ∀ v, takeOf c ch ((d₁.params ch).latch c) (d₁.withChannels v) = done (d₁.withChannels v) code) :
    exec (commandRow c ch w) s = .next (s.withDev (d₁.answered ch c { result := code })) :=
  exec_of_control h rfl ht

/-- An AGENT register above 7 names no agent. -/
theorem agentOf_eq_none {v : Byte} (h : 7 < v.toNat) : agentOf v = none := dif_neg (by omega)

/-- A revocation is one write of the record and a post, and hands the entry on (R92, R93). -/
theorem revoke_eq (hr : d.entry e = some r) (a : Agent) :
    d.revoke e a = ((d.putRecord e (r.withoutGrant a)).post e a .revoked).handOn e := by
  rw [Device.revoke, endGrant_eq hr]

theorem takeForceRelease_noAgent (hl : d.lookup p.handle = .ok (e, r)) (ha : 7 < p.agent.toNat) :
    takeForceRelease ch p d = done d .badParam := by
  simp only [takeForceRelease, hl, agentOf_eq_none ha]

theorem takeForceRelease_self (hl : d.lookup p.handle = .ok (e, r)) (ha : p.agent.toNat = ch.val) :
    takeForceRelease ch p d = done d .notPermitted := by
  simp [takeForceRelease, hl, agentOf_eq_some ha]

theorem takeForceRelease_notHolder (hl : d.lookup p.handle = .ok (e, r)) (ha : p.agent.toNat = a.val) (hac : a ≠ ch)
    (hh : r.heldBy a = false) : takeForceRelease ch p d = done d .notHolder := by
  have hnone : r.holder a = none := by simpa [Record.heldBy] using hh
  simp [takeForceRelease, hl, agentOf_eq_some ha, hac, hnone]

/-- The grant of another agent is revoked, and its ticket and mode are reported (R95, R96). -/
theorem takeForceRelease_held (hl : d.lookup p.handle = .ok (e, r)) (ha : p.agent.toNat = a.val) (hac : a ≠ ch) {h : Holder}
    (hh : r.holder a = some h) : takeForceRelease ch p d =
      (((d.putRecord e (r.withoutGrant a)).post e a .revoked).handOn e,
        some { result := .ok, ticket := some h.ticket, mode := some h.mode }) := by
  rw [← revoke_eq (lookup_entry hl)]
  simp [takeForceRelease, hl, agentOf_eq_some ha, hac, hh]

/-- Settles O44: the refusals in the order of R95, and the revocation as one write of the record. -/
theorem forceReleaseRevokes : Obligations.ForceReleaseRevokes := by
  intro s d d₁ ch w e r hs hl ends
  refine ⟨fun h7 => exec_control_refused hs fun v => takeForceRelease_noAgent (e := e) (r := r) hl h7, fun a ha =>
    ⟨fun hac => ?_, fun hac hh => ?_, fun h hac hh => ?_⟩⟩
  · subst hac
    exact exec_control_refused hs fun v => takeForceRelease_self (e := e) (r := r) hl ha
  · exact exec_control_refused hs fun v => takeForceRelease_notHolder (e := e) (r := r) hl ha hac hh
  · refine exec_of_control hs ?_ fun v => ?_
    · rw [channels_handOn, post_channels]; rfl
    · refine (takeForceRelease_held (d := d₁.withChannels v) hl ha hac hh).trans ?_
      rw [putRecord_withChannels, post_withChannels, handOn_withChannels]

end

end Sys2Proof.Machine
end

section
/-!
PROOFS. The evaluation of an entry: what it writes in the record and in the notice cells (R83 to R88).
-/
namespace Sys2Proof.Machine

section
variable {d d' : Device} {e x : EntryIx} {r : Record} {a b : Agent} {o : AskOutcome}

/-! ### The demand (R83) -/

/-- A priority is below the demand exactly where the cell of another agent stands above it. -/
theorem belowDemand_iff {p : Priority} {q : List WaitCell} :
    belowDemand p (demandAgainst a q) = true ↔ ∃ c ∈ q, c.agent ≠ a ∧ p < c.priority := by
  unfold demandAgainst
  cases hm : ((q.filter fun c => c.agent ≠ a).map (·.priority)).max? with
  | none =>
    have hnone : q.filter (fun c => c.agent ≠ a) = [] := List.map_eq_nil_iff.mp (List.max?_eq_none_iff.mp hm)
    refine iff_of_false Bool.false_ne_true ?_
    rintro ⟨c, hc, ha, -⟩
    exact List.filter_eq_nil_iff.mp hnone c hc (decide_eq_true ha)
  | some m =>
    obtain ⟨hmem, hmax⟩ := List.max?_eq_some_iff.mp hm
    obtain ⟨c, hc, rfl⟩ := List.mem_map.mp hmem
    obtain ⟨hcq, hca⟩ := List.mem_filter.mp hc
    refine decide_eq_true_iff.trans ⟨fun hp => ⟨c, hcq, of_decide_eq_true hca, hp⟩, fun ⟨y, hy, hya, hp⟩ => ?_⟩
    exact hp.trans_le (hmax _ (List.mem_map.mpr ⟨y, List.mem_filter.mpr ⟨hy, decide_eq_true hya⟩, rfl⟩))

/-! ### The outcome for a holder (R84 to R88) -/

/-- The outcome of an evaluation of the record `r` for the holder `h`. -/
def Device.outcomeFor (d : Device) (r : Record) (h : Holder) : AskOutcome :=
  askOutcome r.policy r.queue (decide (d.Online h.agent)) h

theorem outcomeFor_eq (d : Device) (r : Record) (h : Holder) : d.outcomeFor r h =
    if r.policy = .none then .keep
    else if ∃ c ∈ r.queue, c.agent ≠ h.agent ∧ h.priority < c.priority then
      if h.asked = false ∧ (d.agent h.agent).state = .online then .ask else .keep
    else if h.asked = true then .withdraw else .keep := by
  unfold Device.outcomeFor askOutcome
  by_cases hd : ∃ c ∈ r.queue, c.agent ≠ h.agent ∧ h.priority < c.priority
  · rw [belowDemand_iff.mpr hd, if_pos hd]
    cases h.asked <;> simp [Device.Online]
  · rw [Bool.eq_false_iff.mpr (mt belowDemand_iff.mp hd), if_neg hd]
    cases h.asked <;> simp

/-- The holder record that an evaluation leaves. -/
theorem afterAsk_outcomeFor (d : Device) (r : Record) (h : Holder) :
    h.afterAsk r.policy (d.outcomeFor r h) = evaluated d r h := by
  rw [outcomeFor_eq, evaluated]
  split_ifs <;> rfl

/-- Only an agent that is ONLINE is asked (R86). -/
theorem online_of_ask {h : Holder} (ho : d.outcomeFor r h = .ask) : d.Online h.agent := by
  rw [outcomeFor_eq] at ho
  split_ifs at ho with _ _ hask
  exact hask.2

theorem outcomeFor_eq_ask_iff {h : Holder} :
    d.outcomeFor r h = .ask ↔ h.asked = false ∧ (evaluated d r h).asked = true := by
  rw [outcomeFor_eq, evaluated]
  split_ifs <;> simp_all

theorem outcomeFor_eq_withdraw_iff {h : Holder} :
    d.outcomeFor r h = .withdraw ↔ h.asked = true ∧ (evaluated d r h).asked = false := by
  rw [outcomeFor_eq, evaluated]
  split_ifs <;> simp_all

/-! ### The notices of an evaluation -/

/-- A notice cell after the outcome `o` has been told about the record of generation `g` (R87, R88). -/
def NoticeCell.told (c : NoticeCell) (g : Generation) : AskOutcome → NoticeCell
  | .keep => c
  | .ask => c.add .yieldAsked g
  | .withdraw => c.drop .yieldAsked

/-- Telling an outcome writes notice cells alone. -/
theorem tellAsk_eq (d : Device) (e : EntryIx) (a : Agent) (o : AskOutcome) :
    d.tellAsk e a o = { d with notices := (d.tellAsk e a o).notices } := by
  cases o
  · rfl
  · exact postGen_eq ..
  · rfl

theorem notice_tellAsk_same (ho : o = .ask → d.Online a) :
    (d.tellAsk e a o).notice e a = (d.notice e a).told (d.slot e).generation o := by
  cases o with
  | keep => rfl
  | ask => exact (notice_postGen ..).trans (if_pos ⟨⟨rfl, rfl⟩, ho rfl⟩)
  | withdraw => exact (Device.notice_setNotice ..).trans (if_pos ⟨rfl, rfl⟩)

theorem notice_tellAsk_ne (hab : a ≠ b) : (d.tellAsk e a o).notice x b = d.notice x b := by
  cases o with
  | keep => rfl
  | ask => exact (notice_postGen ..).trans (if_neg fun h => hab h.1.2)
  | withdraw => exact (Device.notice_setNotice ..).trans (if_neg fun h => hab h.2)

/-- The outcomes `o` of an evaluation told to the agents of the holders `l`. -/
def Device.tellAsks (d : Device) (e : EntryIx) (l : List Holder) (o : Holder → AskOutcome) : Device :=
  l.foldl (fun d h => d.tellAsk e h.agent (o h)) d

theorem tellAsks_cons (d : Device) (e : EntryIx) (h : Holder) (l : List Holder) (o : Holder → AskOutcome) :
    d.tellAsks e (h :: l) o = (d.tellAsk e h.agent (o h)).tellAsks e l o := rfl

theorem tellAsks_eq (d : Device) (e : EntryIx) (l : List Holder) (o : Holder → AskOutcome) :
    d.tellAsks e l o = { d with notices := (d.tellAsks e l o).notices } := by
  induction l generalizing d with
  | nil => rfl
  | cons h l ih =>
    obtain ⟨n, hn⟩ : ∃ n, d.tellAsk e h.agent (o h) = { d with notices := n } := ⟨_, tellAsk_eq ..⟩
    rw [tellAsks_cons, hn, ih]

theorem notice_tellAsks_of_notMem {l : List Holder} (o : Holder → AskOutcome) (ha : a ∉ l.map (·.agent)) :
    (d.tellAsks e l o).notice x a = d.notice x a := by
  induction l generalizing d with
  | nil => rfl
  | cons h l ih =>
    rw [List.map_cons, List.mem_cons, not_or] at ha
    exact (ih ha.2).trans (notice_tellAsk_ne (Ne.symm ha.1))

/-- Where no agent is named twice, each is told its own outcome. -/
theorem notice_tellAsks {l : List Holder} {o : Holder → AskOutcome} (hn : (l.map (·.agent)).Nodup)
    (ho : ∀ h ∈ l, o h = .ask → d.Online h.agent) {h : Holder} (hh : h ∈ l) :
    (d.tellAsks e l o).notice e h.agent = (d.notice e h.agent).told (d.slot e).generation (o h) := by
  induction l generalizing d with
  | nil => cases hh
  | cons y l ih =>
    obtain ⟨hy, hl⟩ := List.nodup_cons.mp hn
    have hsame : d.tellAsk e y.agent (o y) = { d with notices := (d.tellAsk e y.agent (o y)).notices } := tellAsk_eq ..
    rw [tellAsks_cons]
    rcases List.mem_cons.mp hh with rfl | hh
    · rw [notice_tellAsks_of_notMem o hy, notice_tellAsk_same (ho h hh)]
    · have hne : y.agent ≠ h.agent := fun hyh => hy (List.mem_map.mpr ⟨h, hh, hyh.symm⟩)
      rw [ih hl (fun z hz hask => by rw [hsame]; exact ho z (List.mem_cons_of_mem y hz) hask) hh, notice_tellAsk_ne hne, hsame]
      rfl

/-! ### The evaluation -/

/-- A record after its evaluation: every holder as R86 to R88 say. -/
def Record.evaluatedOn (r : Record) (d : Device) : Record := { r with holders := r.holders.map (evaluated d r) }

/-- An evaluation is one write of the record, and the outcomes told. -/
theorem evaluate_eq (hr : d.entry e = some r) :
    d.evaluate e = (d.putRecord e (r.evaluatedOn d)).tellAsks e r.holders (d.outcomeFor r) := by
  have hmap : (r.holders.map fun h => h.afterAsk r.policy (d.outcomeFor r h)) = r.holders.map (evaluated d r) :=
    List.map_congr_left fun h _ => afterAsk_outcomeFor d r h
  rw [Record.evaluatedOn, ← hmap, Device.evaluate, hr]
  dsimp only
  rw [modifyEntry_eq_putRecord hr]
  rfl

/-- But for the record and the notices, an evaluation leaves the device. -/
theorem evaluate_eq_notices (hr : d.entry e = some r) :
    d.evaluate e = { d.putRecord e (r.evaluatedOn d) with notices := (d.evaluate e).notices } := by
  rw [evaluate_eq hr]
  exact tellAsks_eq ..

theorem entry_evaluate_some (hr : d.entry e = some r) : (d.evaluate e).entry e = some (r.evaluatedOn d) := by
  rw [evaluate_eq_notices hr]
  exact (entry_putRecord ..).trans (if_pos rfl)

theorem evaluate_free (hr : d.entry e = none) : d.evaluate e = d := by
  rw [Device.evaluate, hr]

@[simp] theorem ticket_evaluate (d : Device) (e : EntryIx) : (d.evaluate e).ticket = d.ticket := by
  cases hr : d.entry e with
  | none => rw [evaluate_free hr]
  | some r => rw [evaluate_eq_notices hr]; rfl

@[simp] theorem groups_evaluate (d : Device) (e : EntryIx) : (d.evaluate e).groups = d.groups := by
  cases hr : d.entry e with
  | none => rw [evaluate_free hr]
  | some r => rw [evaluate_eq_notices hr]; rfl

/-- Each holder's agent has its notice cell written as its outcome says. -/
theorem notice_evaluate (hr : d.entry e = some r) (hn : (r.holders.map (·.agent)).Nodup) {h : Holder} (hh : h ∈ r.holders) :
    (d.evaluate e).notice e h.agent = (d.notice e h.agent).told (d.slot e).generation (d.outcomeFor r h) := by
  have hask : ∀ y ∈ r.holders, d.outcomeFor r y = .ask → (d.putRecord e (r.evaluatedOn d)).Online y.agent :=
    fun _ _ hy => online_of_ask hy
  rw [evaluate_eq hr, notice_tellAsks hn hask hh]
  simp only [Device.slot, Device.putRecord_slots, tget_tset_same]
  rfl

/-- Settles O19, from the record that an evaluation writes and the outcome it tells each holder. -/
theorem evaluationAsksAndWithdraws : Obligations.EvaluationAsksAndWithdraws := by
  intro d e r hr
  refine ⟨entry_evaluate_some hr, fun hn h hh => ?_, fun a ha => ?_, ticket_evaluate d e, groups_evaluate d e,
    onlyEntry_evaluate d e⟩
  · rw [notice_evaluate hr hn hh]
    simp only [← outcomeFor_eq_ask_iff, ← outcomeFor_eq_withdraw_iff]
    cases d.outcomeFor r h <;> rfl
  · rw [evaluate_eq hr, notice_tellAsks_of_notMem _ ha]
    rfl

end

end Sys2Proof.Machine
end

section
/-!
PROOFS. REJOIN (R98, R151, R177, R178): the entries that the agent holds evaluated one by one, and entry 0 handed on where it is
the boot agent.
-/
namespace Sys2Proof.Machine

section
variable {s : State} {d d₁ d' d'' : Device} {e y : EntryIx} {r r' : Record} {a b : Agent} {w : Writes} {l : List EntryIx}
  {ch : Agent} {c : Cmd}

/-! ### Evaluations read their own slot alone -/

/-- What an evaluation of slot `e` reads and writes, its record, its notice cells and the roster, is in `d'` as in `d`. -/
structure SameAt (e : EntryIx) (d d' : Device) : Prop where
  slot : d'.slot e = d.slot e
  notices : ∀ a, d'.notice e a = d.notice e a
  agents : d'.agents = d.agents

namespace SameAt

theorem refl (e : EntryIx) (d : Device) : SameAt e d d := ⟨rfl, fun _ => rfl, rfl⟩

theorem trans (h : SameAt e d d') (h' : SameAt e d' d'') : SameAt e d d'' :=
  ⟨h'.slot.trans h.slot, fun a => (h'.notices a).trans (h.notices a), h'.agents.trans h.agents⟩

theorem entry (h : SameAt e d d') : d'.entry e = d.entry e := congrArg Slot.record h.slot

theorem of_onlyEntry (h : OnlyEntry y d d') (hy : e ≠ y) : SameAt e d d' := ⟨h.slots e hy, h.notices e hy, h.agents⟩

theorem online_iff (h : SameAt e d d') (a : Agent) : d'.Online a ↔ d.Online a := by
  rw [Device.Online, agent_of_agents h.agents]

theorem putRecord (h : SameAt e d d') (r : Record) : SameAt e (d.putRecord e r) (d'.putRecord e r) := by
  have hs : tget d'.slots e = tget d.slots e := h.slot
  exact ⟨by simp only [Device.slot, Device.putRecord_slots, tget_tset_same, hs], h.notices, h.agents⟩

theorem tellAsk (h : SameAt e d d') (a : Agent) (o : AskOutcome) : SameAt e (d.tellAsk e a o) (d'.tellAsk e a o) := by
  refine ⟨?_, fun b => ?_, ?_⟩
  · unfold Device.slot
    rw [slots_tellAsk, slots_tellAsk]
    exact h.slot
  · cases o with
    | keep => exact h.notices b
    | ask =>
      unfold Device.tellAsk Device.post
      rw [notice_postGen, notice_postGen, h.notices, h.notices, h.slot]
      simp only [h.online_iff]
    | withdraw =>
      unfold Device.tellAsk Device.unpost
      rw [Device.notice_setNotice, Device.notice_setNotice, h.notices, h.notices]
  · rw [tellAsk_eq d', tellAsk_eq d]
    exact h.agents

theorem tellAsks (h : SameAt e d d') (l : List Holder) (o : Holder → AskOutcome) :
    SameAt e (d.tellAsks e l o) (d'.tellAsks e l o) := by
  induction l generalizing d d' with
  | nil => exact h
  | cons x l ih => exact ih (h.tellAsk x.agent (o x))

theorem evaluate (h : SameAt e d d') : SameAt e (d.evaluate e) (d'.evaluate e) := by
  cases hr : d.entry e with
  | none => rwa [evaluate_free hr, evaluate_free (h.entry.trans hr)]
  | some r =>
    have hrec : r.evaluatedOn d' = r.evaluatedOn d := by
      unfold Record.evaluatedOn evaluated
      simp only [agent_of_agents h.agents]
    have hout : d'.outcomeFor r = d.outcomeFor r := by
      funext x
      unfold Device.outcomeFor
      simp only [h.online_iff]
    rw [evaluate_eq hr, evaluate_eq (h.entry.trans hr), hrec, hout]
    exact (h.putRecord _).tellAsks _ _

end SameAt

/-! ### The entries that an agent holds, evaluated one by one (R98) -/

/-- Entry `e` is evaluated where agent `a` holds it. -/
def Device.evaluateHeld (a : Agent) (d : Device) (e : EntryIx) : Device :=
  match d.entry e with
  | some r => if r.heldBy a then d.evaluate e else d
  | none => d

theorem evaluateHolds_eq (d : Device) (a : Agent) : d.evaluateHolds a = allEntries.foldl (Device.evaluateHeld a) d := rfl

theorem evaluateHeld_held (hr : d.entry e = some r) (hh : r.heldBy a = true) : d.evaluateHeld a e = d.evaluate e := by
  simp [Device.evaluateHeld, hr, hh]

theorem evaluateHeld_unheld (h : ∀ r, d.entry e = some r → r.heldBy a = false) : d.evaluateHeld a e = d := by
  unfold Device.evaluateHeld
  split
  · next r hr => rw [h r hr]; rfl
  · rfl

theorem onlyEntry_evaluateHeld (a : Agent) (d : Device) (e : EntryIx) : OnlyEntry e d (d.evaluateHeld a e) := by
  unfold Device.evaluateHeld
  split
  · split
    · exact onlyEntry_evaluate d e
    · exact .refl e d
  · exact .refl e d

@[simp] theorem evaluateHolds_withChannels (d : Device) (v : Vector Channel 8) (a : Agent) :
    (d.withChannels v).evaluateHolds a = (d.evaluateHolds a).withChannels v := by
  rw [evaluateHolds_eq, evaluateHolds_eq]
  refine foldl_withChannels d v _ (fun x e => ?_) _
  unfold Device.evaluateHeld
  change (match x.entry e with | some r => _ | none => _) = _
  cases x.entry e with
  | none => rfl
  | some r => dsimp only; rw [evaluate_withChannels]; split <;> rfl

/-- An entry that is not among those gone through stays as it was. -/
theorem sameAt_foldl_evaluateHeld_of_notMem (he : e ∉ l) : SameAt e d (l.foldl (Device.evaluateHeld a) d) := by
  induction l generalizing d with
  | nil => exact .refl e d
  | cons y l ih =>
    rw [List.mem_cons, not_or] at he
    exact (SameAt.of_onlyEntry (onlyEntry_evaluateHeld a d y) he.1).trans (ih he.2)

/-- An entry that the agent holds is evaluated once. -/
theorem sameAt_foldl_evaluateHeld_held (hn : l.Nodup) (he : e ∈ l) (hr : d.entry e = some r) (hh : r.heldBy a = true) :
    SameAt e (d.evaluate e) (l.foldl (Device.evaluateHeld a) d) := by
  induction l generalizing d with
  | nil => cases he
  | cons y l ih =>
    obtain ⟨hy, hn⟩ := List.nodup_cons.mp hn
    rw [List.foldl_cons]
    by_cases hey : e = y
    · subst hey
      rw [evaluateHeld_held hr hh]
      exact sameAt_foldl_evaluateHeld_of_notMem hy
    · have hsame : SameAt e d (d.evaluateHeld a y) := .of_onlyEntry (onlyEntry_evaluateHeld a d y) hey
      exact hsame.evaluate.trans (ih hn ((List.mem_cons.mp he).resolve_left hey) (hsame.entry.trans hr))

theorem sameAt_evaluateHolds_held (hr : d.entry e = some r) (hh : r.heldBy a = true) :
    SameAt e (d.evaluate e) (d.evaluateHolds a) :=
  sameAt_foldl_evaluateHeld_held (List.nodup_finRange 128) (mem_allEntries e) hr hh

/-- An entry that the agent does not hold stays as it was. -/
theorem sameAt_evaluateHolds_unheld (h : ∀ r, d.entry e = some r → r.heldBy a = false) : SameAt e d (d.evaluateHolds a) := by
  rw [evaluateHolds_eq]
  generalize allEntries = l
  induction l generalizing d with
  | nil => exact .refl e d
  | cons y l ih =>
    rw [List.foldl_cons]
    by_cases hey : e = y
    · subst hey
      rw [evaluateHeld_unheld h]
      exact ih h
    · have hsame : SameAt e d (d.evaluateHeld a y) := .of_onlyEntry (onlyEntry_evaluateHeld a d y) hey
      exact hsame.trans (ih fun r hr => h r (hsame.entry.symm.trans hr))

/-! ### What evaluations keep -/

/-- From `d` to `d'` slots and notices alone have changed. -/
def SlotsAndNotices (d d' : Device) : Prop := ∃ v n, d' = { d with slots := v, notices := n }

theorem slotsAndNotices_evaluateHolds (d : Device) (a : Agent) : SlotsAndNotices d (d.evaluateHolds a) := by
  refine evaluateHolds_keeps (fun d => ⟨d.slots, d.notices, rfl⟩) ?_ (fun d e => ?_) d a
  · rintro d _ _ ⟨v, n, rfl⟩ ⟨v', n', rfl⟩
    exact ⟨v', n', rfl⟩
  · cases hr : d.entry e with
    | none => exact ⟨d.slots, d.notices, evaluate_free hr⟩
    | some r => exact ⟨_, _, evaluate_eq_notices hr⟩

/-- A record without its yield state. -/
def Record.unasked (r : Record) : Record :=
  { r with holders := r.holders.map fun h => { h with asked := false, grace := none } }

/-- The records of `d'` are those of `d` but for the yield state of their holders. -/
def KeepsGrants (d d' : Device) : Prop := ∀ e, (d'.entry e).map Record.unasked = (d.entry e).map Record.unasked

theorem unasked_evaluatedOn (d : Device) (r : Record) : (r.evaluatedOn d).unasked = r.unasked := by
  unfold Record.unasked Record.evaluatedOn
  congr 1
  rw [List.map_map]
  refine List.map_congr_left fun h _ => ?_
  rw [Function.comp_apply, evaluated]
  split_ifs <;> rfl

theorem keepsGrants_evaluate (d : Device) (e : EntryIx) : KeepsGrants d (d.evaluate e) := by
  intro x
  by_cases hx : x = e
  · subst hx
    cases hr : d.entry x with
    | none => rw [evaluate_free hr, hr]
    | some r => rw [entry_evaluate_some hr]; exact congrArg some (unasked_evaluatedOn d r)
  · rw [(SameAt.of_onlyEntry (onlyEntry_evaluate d e) hx).entry]

theorem keepsGrants_evaluateHolds (d : Device) (a : Agent) : KeepsGrants d (d.evaluateHolds a) :=
  evaluateHolds_keeps (fun _ _ => rfl) (fun h h' e => (h' e).trans (h e)) keepsGrants_evaluate d a

namespace KeepsGrants

/-- A sum over the records that does not look at their yield state. -/
theorem sumEntries (h : KeepsGrants d d') {f : Record → Nat} (hf : ∀ r, f r.unasked = f r) :
    d'.sumEntries f = d.sumEntries f := by
  have hv : ∀ o : Option Record, slotValue f (o.map Record.unasked) = slotValue f o := fun o => by
    cases o with
    | none => rfl
    | some r => exact hf r
  rw [sumEntries_eq, sumEntries_eq]
  exact Finset.sum_congr rfl fun e _ => by rw [← hv, h e, hv]

theorem holdCount (h : KeepsGrants d d') (a : Agent) : d'.holdCount a = d.holdCount a :=
  h.sumEntries fun r => countP_holder_agent (by rw [Record.unasked, List.map_map]; rfl)

theorem nonUpgradeWaits (h : KeepsGrants d d') (a : Agent) : d'.nonUpgradeWaits a = d.nonUpgradeWaits a :=
  h.sumEntries fun _ => rfl

/-- A record stays, with what its grants keep, its queue and its lifecycle. -/
theorem record (h : KeepsGrants d d') (hr : d.entry e = some r) : ∃ r', d'.entry e = some r' ∧
    r'.holders.map Holder.kept = r.holders.map Holder.kept ∧ r'.queue = r.queue ∧ r'.lifecycle = r.lifecycle := by
  have he := h e
  rw [hr] at he
  obtain ⟨r', hr', hu⟩ := Option.map_eq_some_iff.mp he
  have hk : ∀ x : Record, x.unasked.holders.map Holder.kept = x.holders.map Holder.kept := fun x => by
    rw [Record.unasked, List.map_map]; rfl
  exact ⟨r', hr', by rw [← hk, hu, hk], (congrArg Record.queue hu :), (congrArg Record.lifecycle hu :)⟩

end KeepsGrants

/-! ### The free control lease handed on (R151) -/

/-- Entry 0, free, is handed on to the boot agent. -/
theorem entry_handOn_leased (hr : d.entry 0 = some r) (hd : r.decidable = true) (hg : r.group = none) (hh : r.holders = [])
    (hq : r.queue = []) (ho : (d.agent d.boot).state = .online)
    (hquota : d.holdCount d.boot + d.nonUpgradeWaits d.boot < (d.agent d.boot).holdQuota) :
    (d.handOn 0).entry 0 = some { r with holders := [leaseHolder d.boot d.ticket], occupancy := .heldX } := by
  have hgrant : (d.grantDecision 0).entry 0 = some { r with holders := [leaseHolder d.boot d.ticket], occupancy := .heldX } := by
    rw [(controlLeaseGoesToTheBootAgent d 0 r hr hd hg hh hq).1 rfl ho hquota, entry_post]
    exact (entry_putRecord ..).trans (if_pos rfl)
  have hkeep : (d.grantDecision 0).evaluate 0 = d.grantDecision 0 := by
    refine evaluate_keep hgrant fun h hm => ?_
    rw [List.mem_singleton.mp hm]
    exact (congrArg (fun q => askOutcome r.policy q _ _) hq).trans (askOutcome_nil _ _ rfl)
  rw [Device.handOn, checkDrain_live hgrant (show r.lifecycle = .live from live_of_decidable hd), hkeep, hgrant]

/-! ### The device after a REJOIN -/

/-- The agent is ONLINE, and every entry it holds has been evaluated. -/
def Device.resumed (d : Device) (a : Agent) : Device := (d.setRoster a .online).evaluateHolds a

/-- Entry 0 handed on where the agent is the boot agent. -/
def Device.leaseHandedOn (d : Device) (a : Agent) : Device := if a = d.boot then d.handOn 0 else d

/-- The device after the REJOIN of agent `a`. -/
def Device.rejoined (d : Device) (a : Agent) : Device := ((d.resumed a).leaseHandedOn a).closeWindow

theorem onlyEntry_leaseHandedOn (d : Device) (a : Agent) : OnlyEntry 0 d (d.leaseHandedOn a) := by
  unfold Device.leaseHandedOn
  split
  · exact onlyEntry_handOn d 0
  · exact .refl 0 d

theorem slotsAndNotices_resumed (d : Device) (a : Agent) : SlotsAndNotices (d.setRoster a .online) (d.resumed a) :=
  slotsAndNotices_evaluateHolds ..

theorem boot_resumed (d : Device) (a : Agent) : (d.resumed a).boot = d.boot := by
  obtain ⟨v, n, h⟩ := slotsAndNotices_resumed d a
  rw [h]; rfl

theorem rejoined_boot (hb : a = d.boot) : d.rejoined a = ((d.resumed a).handOn 0).closeWindow := by
  rw [Device.rejoined, Device.leaseHandedOn, if_pos (hb.trans (boot_resumed d a).symm)]

theorem rejoined_other (hb : a ≠ d.boot) : d.rejoined a = (d.resumed a).closeWindow := by
  rw [Device.rejoined, Device.leaseHandedOn, if_neg (by rwa [boot_resumed])]

theorem takeRejoin_rejoining (p : Params) (h : (d.agent a).state = .rejoining) :
    takeRejoin a p d = (d.rejoined a, some (d.attachInfo a (d.holdCount a))) := if_pos h

theorem takeRejoin_refused (p : Params) (h : (d.agent a).state ≠ .rejoining) : takeRejoin a p d = done d .wrongState :=
  if_neg h

theorem rejoined_withChannels (d : Device) (v : Vector Channel 8) (a : Agent) :
    (d.withChannels v).rejoined a = (d.rejoined a).withChannels v := by
  have hres : (d.withChannels v).resumed a = (d.resumed a).withChannels v := by
    rw [Device.resumed, setRoster_withChannels, evaluateHolds_withChannels, ← Device.resumed]
  have hlease : ∀ x : Device, (x.withChannels v).leaseHandedOn a = (x.leaseHandedOn a).withChannels v := fun x => by
    unfold Device.leaseHandedOn
    rw [handOn_withChannels, show (x.withChannels v).boot = x.boot from rfl]
    split <;> rfl
  rw [Device.rejoined, hres, hlease, closeWindow_withChannels, ← Device.rejoined]

/-- But for entry 0 of the boot agent, a slot is as the evaluations have left it. -/
theorem sameAt_rejoined (h : e ≠ 0 ∨ a ≠ d.boot) : SameAt e (d.resumed a) (d.rejoined a) := by
  have hclose : ∀ x : Device, SameAt e x x.closeWindow := fun x => by rw [closeWindow_eq]; exact ⟨rfl, fun _ => rfl, rfl⟩
  by_cases hb : a = d.boot
  · exact (SameAt.of_onlyEntry (onlyEntry_leaseHandedOn _ a) (h.resolve_right (not_not.mpr hb))).trans (hclose _)
  · rw [rejoined_other hb]; exact hclose _

/-- Outside the records, the notices, the groups and the ticket counter a REJOIN changes the roster and the window alone. -/
theorem rejoined_frame (d : Device) (a : Agent) :
    (d.rejoined a).agents = (d.setRoster a .online).agents ∧ (d.rejoined a).channels = d.channels ∧
    (d.rejoined a).boot = d.boot ∧ (d.rejoined a).config = d.config ∧ (d.rejoined a).issued = d.issued ∧
    (d.rejoined a).tickPhase = d.tickPhase ∧ (d.rejoined a).tickPeriod = d.tickPeriod := by
  obtain ⟨v, n, h⟩ := slotsAndNotices_resumed d a
  have ho := onlyEntry_leaseHandedOn (d.resumed a) a
  rw [Device.rejoined, closeWindow_eq]
  refine ⟨ho.agents.trans ?_, ho.channels.trans ?_, ho.boot.trans ?_, ho.config.trans ?_, ho.issued.trans ?_,
    ho.tickPhase.trans ?_, ho.tickPeriod.trans ?_⟩ <;> rw [h] <;> rfl

/-- The window ends with the last REJOINING agent (R177). -/
theorem reclaimLeft_rejoined (d : Device) (a : Agent) : (d.rejoined a).reclaimLeft =
    if ∃ b, ((d.setRoster a .online).agent b).state = .rejoining then d.reclaimLeft else none := by
  obtain ⟨v, n, h⟩ := slotsAndNotices_resumed d a
  have ho := onlyEntry_leaseHandedOn (d.resumed a) a
  have hagents : ((d.resumed a).leaseHandedOn a).agents = (d.setRoster a .online).agents :=
    ho.agents.trans (by rw [h])
  have hleft : ((d.resumed a).leaseHandedOn a).reclaimLeft = d.reclaimLeft := ho.reclaimLeft.trans (by rw [h]; rfl)
  rw [Device.rejoined, reclaimLeft_closeWindow, hleft]
  simp only [agent_of_agents hagents]

/-- An agent that is not the boot agent takes no ticket and moves no group. -/
theorem ticket_groups_rejoined (hb : a ≠ d.boot) : (d.rejoined a).ticket = d.ticket ∧ (d.rejoined a).groups = d.groups := by
  obtain ⟨v, n, h⟩ := slotsAndNotices_resumed d a
  rw [rejoined_other hb, closeWindow_eq, h]
  exact ⟨rfl, rfl⟩

/-! ### Entry 0 of the boot agent -/

theorem entry_rejoined_boot (hb : a = d.boot) (e : EntryIx) : (d.rejoined a).entry e = ((d.resumed a).handOn 0).entry e := by
  rw [rejoined_boot hb, entry_of_slots (slots_closeWindow _)]

/-- Entry 0, free, is granted to the boot agent that rejoins (R151). -/
theorem entry_rejoined_leased (hb : a = d.boot) (hr : d.entry 0 = some r) (hd : r.decidable = true) (hg : r.group = none)
    (hh : r.holders = []) (hq : r.queue = []) (hquota : d.holdCount a + d.nonUpgradeWaits a < (d.agent a).holdQuota) :
    (d.rejoined a).entry 0 = some { r with holders := [leaseHolder a d.ticket], occupancy := .heldX } := by
  obtain ⟨v, n, h⟩ := slotsAndNotices_resumed d a
  have hsame : SameAt 0 (d.setRoster a .online) (d.resumed a) := sameAt_evaluateHolds_unheld fun r' hr' => by
    cases hr.symm.trans hr'
    simp [heldBy_eq_false, hh]
  have hkeep : KeepsGrants (d.setRoster a .online) (d.resumed a) := keepsGrants_evaluateHolds _ a
  have hboot : (d.resumed a).boot = a := (boot_resumed d a).trans hb.symm
  have hagent : (d.resumed a).agent a = { d.agent a with state := .online } := by
    rw [agent_of_agents hsame.agents, agent_setRoster, if_pos rfl]
  have hticket : (d.resumed a).ticket = d.ticket := by rw [h]; rfl
  have hhold : (d.resumed a).holdCount a = d.holdCount a := hkeep.holdCount a
  have hwait : (d.resumed a).nonUpgradeWaits a = d.nonUpgradeWaits a := hkeep.nonUpgradeWaits a
  have hleased := entry_handOn_leased (hsame.entry.trans hr) hd hg hh hq (by rw [hboot, hagent])
    (by rw [hboot, hagent, hhold, hwait]; exact hquota)
  rw [entry_rejoined_boot hb, hleased, hboot, hticket]

/-- Entry 0, held, with EXCLUSIVE cells alone waiting, keeps its grants (R178). -/
theorem entry_rejoined_kept (hb : a = d.boot) (hr : d.entry 0 = some r) (hl : r.lifecycle = .live) (hn : r.holders ≠ [])
    (hq : ∀ c ∈ r.queue, c.mode = .exclusive) : ∃ r', (d.rejoined a).entry 0 = some r' ∧
      r'.holders.map Holder.kept = r.holders.map Holder.kept ∧ r'.queue = r.queue := by
  have hkeep : KeepsGrants (d.setRoster a .online) (d.resumed a) := keepsGrants_evaluateHolds _ a
  obtain ⟨r₁, hr₁, hk₁, hq₁, hl₁⟩ := hkeep.record (show (d.setRoster a .online).entry 0 = some r from hr)
  have hn₁ : r₁.holders ≠ [] := fun h => hn (List.map_eq_nil_iff.mp (by rw [← hk₁, h]; rfl))
  have hhand : (d.resumed a).handOn 0 = (d.resumed a).evaluate 0 := handOn_held hr₁ (hl₁.trans hl) hn₁ (by rwa [hq₁])
  obtain ⟨r₂, hr₂, hk₂, hq₂, -⟩ := (keepsGrants_evaluate (d.resumed a) 0).record hr₁
  exact ⟨r₂, by rw [entry_rejoined_boot hb, hhand, hr₂], hk₂.trans hk₁, hq₂.trans hq₁⟩

/-! ### The answer -/

/-- A command that the attach check lets through, and that is no control command, ends as its rule says. -/
theorem exec_of_attachCheck (h : Starts s d ch c w d₁) (ha : attachCheck c (d₁.agent ch).state = none)
    (hn : isControlCommand c = false) {x : Results} (hc : d'.channels = d₁.channels)
    (ht : ∀ v, takeOf c ch ((d₁.params ch).latch c) (d₁.withChannels v) = (d'.withChannels v, some x)) :
    exec (commandRow c ch w) s = .next (s.withDev (d'.answered ch c x)) := by
  have hp : ((d₁.started ch c).chan ch).params = d₁.params ch := by
    simp [Device.started, Device.params, Channel.start]
  have hjudge : (d₁.started ch c).judge ch c (takeOf c) = takeOf c ch ((d₁.params ch).latch c) (d₁.started ch c) := by
    have ha' : attachCheck c ((d₁.started ch c).agent ch).state = none := ha
    unfold Device.judge
    simp [ha', hn, hp]
  rw [exec_commandRow, onLive_live h.live, commandWrite_starts h, hjudge, writeBack_started hc ht]

/-- Settles O26: every other entry by the evaluations, entry 0 of the boot agent by its hand-on. -/
theorem rejoinKeepsTheGrants : Obligations.RejoinKeepsTheGrants := by
  intro s d d₁ ch w h x on
  refine ⟨fun hst => ?_, fun hst => ?_⟩
  · have hne : (d₁.agent ch).state ≠ .rejoining := by rcases hst with hst | hst <;> rw [hst] <;> decide
    have hcheck : attachCheck .rejoin (d₁.agent ch).state = none := by rcases hst with hst | hst <;> rw [hst] <;> rfl
    exact exec_of_attachCheck h hcheck rfl rfl fun v => takeRejoin_refused (d := d₁.withChannels v) {} hne
  · obtain ⟨hagents, hchannels, hboot, hconfig, hissued, hphase, hperiod⟩ := rejoined_frame d₁ ch
    refine ⟨d₁.rejoined ch, ?_, hagents, hchannels, hboot, hconfig, hissued, hphase, hperiod, reclaimLeft_rejoined d₁ ch,
      ticket_groups_rejoined, fun e he => ⟨?_, fun hfree => ?_⟩, fun hb r hr hd hg => ⟨?_, fun hq hn => ?_⟩⟩
    · have hcheck : attachCheck .rejoin (d₁.agent ch).state = none := by rw [hst]; rfl
      exact exec_of_attachCheck h hcheck rfl hchannels fun v =>
        (takeRejoin_rejoining (d := d₁.withChannels v) {} hst).trans (by rw [rejoined_withChannels]; rfl)
    · rintro ⟨r, hr, hh⟩
      have hsame : SameAt e (on.evaluate e) (d₁.rejoined ch) :=
        (sameAt_evaluateHolds_held (d := on) hr hh).trans (sameAt_rejoined he)
      exact ⟨hsame.slot, hsame.notices⟩
    · have hsame : SameAt e on (d₁.rejoined ch) :=
        (sameAt_evaluateHolds_unheld (d := on) hfree).trans (sameAt_rejoined he)
      exact ⟨hsame.slot, hsame.notices⟩
    · exact fun hh hq hquota => entry_rejoined_leased hb hr hd hg hh hq hquota
    · exact entry_rejoined_kept hb hr (live_of_decidable hd) hn hq

end

end Sys2Proof.Machine
end

section
/-!
PROOFS. RETIRE (R100 to R102, R104 to R106): the waiters and the holders told, the grants revoked in IMMEDIATE mode, and the drain of
an entry left without holders.
-/
namespace Sys2Proof.Machine

section
variable {s : State} {d d₁ d' d'' : Device} {ch a b : Agent} {w : Writes} {e : EntryIx} {r : Record} {p : Params} {m : RetireMode}
  {c : WaitCell} {k : NoticeKind} {code : ResultCode} {x : Channel}

/-! ### What a RETIRE does before the drain -/

/-- RETIRING is pending in the agent's cell for the slot. -/
def Device.RetiringPending (d : Device) (e : EntryIx) (a : Agent) : Prop := (d.notice e a).kinds.retiring = true

/-- From `d` to `d'` the record in slot `e` may have changed and agents have been told of it: no RETIRING has left a notice cell of
the slot, no RETIRE_DONE has come or gone, and the roster, the groups, the generation and the ticket counter have stayed. -/
structure Tells (e : EntryIx) (d d' : Device) : Prop where
  retiring : ∀ a, d.RetiringPending e a → d'.RetiringPending e a
  retireDone : ∀ a, (d'.notice e a).kinds.retireDone = (d.notice e a).kinds.retireDone
  generation : (d'.slot e).generation = (d.slot e).generation
  groups : d'.groups = d.groups
  agents : d'.agents = d.agents
  ticket : d'.ticket = d.ticket

namespace Tells

theorem refl (e : EntryIx) (d : Device) : Tells e d d := ⟨fun _ => id, fun _ => rfl, rfl, rfl, rfl, rfl⟩

theorem trans (h : Tells e d d') (h' : Tells e d' d'') : Tells e d d'' where
  retiring a ha := h'.retiring a (h.retiring a ha)
  retireDone a := (h'.retireDone a).trans (h.retireDone a)
  generation := h'.generation.trans h.generation
  groups := h'.groups.trans h.groups
  agents := h'.agents.trans h.agents
  ticket := h'.ticket.trans h.ticket

theorem foldl {α : Type} {f : Device → α → Device} (hf : ∀ d y, Tells e d (f d y)) (l : List α) (d : Device) :
    Tells e d (l.foldl f d) := by
  induction l generalizing d with
  | nil => exact refl e d
  | cons y l ih => exact (hf d y).trans (ih _)

theorem online (h : Tells e d d') (ha : d.Online a) : d'.Online a := by
  rw [Device.Online, agent_of_agents h.agents]
  exact ha

theorem modifyEntry (d : Device) (e : EntryIx) (f : Record → Record) : Tells e d (d.modifyEntry e f) :=
  { refl e d with
    retiring := fun _ => id
    retireDone := fun _ => rfl
    generation := Device.generation_modifyEntry .. }

/-- Notice cells written: none of them loses RETIRING, or gains or loses RETIRE_DONE. -/
theorem setNotice {y : NoticeCell} (ht : (d.notice e a).kinds.retiring = true → y.kinds.retiring = true)
    (hd : y.kinds.retireDone = (d.notice e a).kinds.retireDone) : Tells e d (d.setNotice e a y) where
  retiring b hb := by
    rw [Device.RetiringPending, Device.notice_setNotice]
    split
    · next h => exact ht (h.2 ▸ hb)
    · exact hb
  retireDone b := by
    rw [Device.notice_setNotice]
    split
    · next h => rw [hd, h.2]
    · rfl
  generation := rfl
  groups := rfl
  agents := rfl
  ticket := rfl

theorem post (d : Device) (e : EntryIx) (a : Agent) (hk : k ≠ .retireDone) : Tells e d (d.post e a k) := by
  unfold Device.post Device.postGen
  split
  · refine setNotice (fun h => ?_) ?_
    · cases k with
      | retiring => rfl
      | _ => exact h
    · cases k with
      | retireDone => exact absurd rfl hk
      | _ => rfl
  · exact refl e d

theorem tellAsk (d : Device) (e : EntryIx) (a : Agent) (o : AskOutcome) : Tells e d (d.tellAsk e a o) := by
  cases o with
  | keep => exact refl e d
  | ask => exact post d e a (by decide)
  | withdraw => exact setNotice id rfl

theorem tellWaiter (d : Device) (e : EntryIx) (c : WaitCell) (code : ResultCode) (hk : k ≠ .retireDone) :
    Tells e d (d.tellWaiter e c code k) := by
  unfold Device.tellWaiter
  split
  · exact { refl e d with }
  · exact post d e c.agent hk

theorem evaluate (d : Device) (e : EntryIx) : Tells e d (d.evaluate e) := by
  unfold Device.evaluate
  split
  · exact refl e d
  · exact (modifyEntry ..).trans (foldl (fun d (h : Holder) => tellAsk d e h.agent _) ..)

theorem retireQueue (d : Device) (e : EntryIx) (r : Record) (a : Agent) (m : RetireMode) : Tells e d (d.retireQueue e r a m) :=
  ((modifyEntry ..).trans (foldl (fun d c => tellWaiter d e c .retiring (k := .retiring) (by decide)) ..)).trans (modifyEntry ..)

theorem holdersTold (d : Device) (e : EntryIx) (l : List Holder) :
    Tells e d (l.foldl (fun d h => d.post e h.agent .retiring) d) := foldl (fun d h => post d e h.agent (by decide)) l d

theorem retireHolders (d : Device) (e : EntryIx) (r : Record) (m : RetireMode) : Tells e d (d.retireHolders e r m) := by
  unfold Device.retireHolders
  cases m with
  | drain => exact holdersTold ..
  | immediate =>
    exact (holdersTold ..).trans
      (foldl (fun d (h : Holder) => (modifyEntry ..).trans (post (d.endGrant e h.agent) e h.agent (by decide))) ..)

end Tells

/-! ### Who is told (R101) -/

/-- An ONLINE agent that is posted RETIRING has it pending. -/
theorem retiringPending_post (h : d.Online a) : (d.post e a .retiring).RetiringPending e a := by
  unfold Device.RetiringPending Device.post
  rw [notice_postGen, if_pos ⟨⟨rfl, rfl⟩, h⟩]
  rfl

/-- Every ONLINE holder has RETIRING pending when the holders have been told. -/
theorem retiringPending_holdersTold {l : List Holder} {h : Holder} (hm : h ∈ l) (ho : d.Online h.agent) :
    (l.foldl (fun d h => d.post e h.agent .retiring) d).RetiringPending e h.agent := by
  induction l generalizing d with
  | nil => cases hm
  | cons y l ih =>
    rw [List.foldl_cons]
    rcases List.mem_cons.mp hm with rfl | hm
    · exact (Tells.holdersTold _ e l).retiring h.agent (retiringPending_post ho)
    · exact ih hm ((Tells.post d e y.agent (k := .retiring) (by decide)).online ho)

/-- Every ONLINE waiter without a flight on the entry has RETIRING pending when the waiters have been told. -/
theorem retiringPending_tellWaiters {l : List WaitCell} (hm : c ∈ l) (ho : d.Online c.agent) (hf : d.inFlightOn c.agent e = false) :
    (l.foldl (fun d c => d.tellWaiter e c code .retiring) d).RetiringPending e c.agent := by
  induction l generalizing d with
  | nil => cases hm
  | cons y l ih =>
    have told (d : Device) (y : WaitCell) : Tells e d (d.tellWaiter e y code .retiring) := .tellWaiter d e y code (by decide)
    rcases List.mem_cons.mp hm with rfl | hm
    · have hnow : d.tellWaiter e c code .retiring = d.post e c.agent .retiring := if_neg (by rw [hf]; decide)
      rw [List.foldl_cons, hnow]
      exact (Tells.foldl told l _).retiring c.agent (retiringPending_post ho)
    · refine ih hm ((told d y).online ho) (Bool.eq_false_iff.mpr fun hf' => ?_)
      rw [(links_tellWaiter ..).inFlightOn hf'] at hf
      cases hf

theorem retiringPending_retireQueue (hm : c ∈ r.queue) (ho : d.Online c.agent) (hf : d.inFlightOn c.agent e = false) :
    (d.retireQueue e r a m).RetiringPending e c.agent :=
  (Tells.modifyEntry ..).retiring _ (retiringPending_tellWaiters (d := d.modifyEntry e _) hm ho hf)

/-! ### The channels of the waiters (R101) -/

/-- The completion of the IN_FLIGHT REQUEST with cell `c` on an entry that is retired (R101). -/
def Channel.endedRetiring (x : Channel) (c : WaitCell) : Channel :=
  x.finish (some .request) { result := .retiring, priority := some c.priority }

theorem chan_tellWaiter_flying (hf : d.inFlightOn c.agent e = true) :
    (d.tellWaiter e c .retiring k).chan c.agent = (d.chan c.agent).endedRetiring c := by
  rw [Device.tellWaiter, if_pos hf, chan_finish, if_pos rfl]
  rfl

theorem chan_tellWaiter_other (h : d.inFlightOn b e = false ∨ c.agent ≠ b) : (d.tellWaiter e c code k).chan b = d.chan b := by
  unfold Device.tellWaiter
  split
  · next hf =>
    rw [chan_finish, if_neg]
    rintro rfl
    rcases h with h | h
    · rw [hf] at h; cases h
    · exact h rfl
  · exact chan_of_channels (post_channels ..) b

theorem chan_tellWaiters_other {l : List WaitCell} (h : d.inFlightOn b e = false ∨ ∀ c ∈ l, c.agent ≠ b) :
    (l.foldl (fun d c => d.tellWaiter e c code k) d).chan b = d.chan b := by
  induction l generalizing d with
  | nil => rfl
  | cons y l ih =>
    have hy : (d.tellWaiter e y code k).chan b = d.chan b := chan_tellWaiter_other (h.imp id fun h => h y (by simp))
    refine (ih (h.imp (fun h => ?_) fun h c hc => h c (by simp [hc]))).trans hy
    rw [inFlightOn_of_chan hy, h]

/-- Where no agent waits twice, a flight ends with the priority of its own cell. -/
theorem chan_tellWaiters_flying {l : List WaitCell} (hn : (l.map (·.agent)).Nodup) (hm : c ∈ l)
    (hf : d.inFlightOn c.agent e = true) :
    (l.foldl (fun d c => d.tellWaiter e c .retiring k) d).chan c.agent = (d.chan c.agent).endedRetiring c := by
  induction l generalizing d with
  | nil => cases hm
  | cons y l ih =>
    obtain ⟨hy, hl⟩ := List.nodup_cons.mp hn
    have hne : ∀ z ∈ l, z.agent ≠ y.agent := fun z hz h => hy (List.mem_map.mpr ⟨z, hz, h⟩)
    rw [List.foldl_cons]
    rcases List.mem_cons.mp hm with rfl | hm
    · rw [chan_tellWaiters_other (.inr hne), chan_tellWaiter_flying hf]
    · have hc : (d.tellWaiter e y .retiring k).chan c.agent = d.chan c.agent := chan_tellWaiter_other (.inr (hne c hm).symm)
      rw [ih hl hm ((inFlightOn_of_chan hc e).trans hf), hc]

/-! ### A channel that is not IN_FLIGHT plays no part -/

/-- An operation that neither looks at the channels nor writes them commutes with a write of one. -/
theorem setChan_of_withChannels {f : Device → Device} (hf : ∀ v, f (d.withChannels v) = (f d).withChannels v)
    (hc : (f d).channels = d.channels) (ch : Agent) (x : Channel) : f (d.setChan ch x) = (f d).setChan ch x := by
  refine (hf _).trans ?_
  rw [← hc]
  rfl

theorem foldl_setChan {α : Type} {f : Device → α → Device} (hf : ∀ d y, f (d.setChan ch x) y = (f d y).setChan ch x) (l : List α)
    (d : Device) : l.foldl f (d.setChan ch x) = (l.foldl f d).setChan ch x := by
  induction l generalizing d with
  | nil => rfl
  | cons y l ih => rw [List.foldl_cons, List.foldl_cons, hf, ih]

theorem post_setChan (d : Device) (e : EntryIx) (a : Agent) (k : NoticeKind) (ch : Agent) (x : Channel) :
    (d.setChan ch x).post e a k = (d.post e a k).setChan ch x :=
  setChan_of_withChannels (f := (·.post e a k)) (fun v => post_withChannels d v e a k) (post_channels ..) ch x

theorem tellWaiter_setChan (hd : (d.chan ch).state ≠ .inFlight) (hx : x.state ≠ .inFlight) :
    (d.setChan ch x).tellWaiter e c code k = (d.tellWaiter e c code k).setChan ch x := by
  have hf : (d.setChan ch x).inFlightOn c.agent e = d.inFlightOn c.agent e := by
    by_cases hc : ch = c.agent
    · subst hc
      rw [inFlightOn_eq_false hd, inFlightOn_eq_false (by rwa [chan_setChan_self])]
    · exact inFlightOn_of_chan (chan_setChan_ne hc d x) e
  unfold Device.tellWaiter
  rw [hf]
  split
  · next h =>
    have hc : ch ≠ c.agent := by
      rintro rfl
      exact hd (inFlight_of_inFlightOn h)
    unfold Device.finish
    rw [chan_setChan_ne hc]
    exact congrArg d.withChannels (Vector.set_comm _ _ fun h => hc (Fin.ext h))
  · exact post_setChan ..

theorem tellWaiters_setChan {l : List WaitCell} (hd : (d.chan ch).state ≠ .inFlight) (hx : x.state ≠ .inFlight) :
    l.foldl (fun d c => d.tellWaiter e c code k) (d.setChan ch x) =
      (l.foldl (fun d c => d.tellWaiter e c code k) d).setChan ch x := by
  induction l generalizing d with
  | nil => rfl
  | cons y l ih =>
    have hy : (d.tellWaiter e y code k).chan ch = d.chan ch := chan_tellWaiter_other (.inl (inFlightOn_eq_false hd e))
    rw [List.foldl_cons, List.foldl_cons, tellWaiter_setChan hd hx, ih (by rwa [hy])]

theorem retireQueue_setChan (hd : (d.chan ch).state ≠ .inFlight) (hx : x.state ≠ .inFlight) :
    (d.setChan ch x).retireQueue e r a m = (d.retireQueue e r a m).setChan ch x :=
  congrArg (fun d : Device => d.modifyEntry e fun r => { r with queue := [] })
    (tellWaiters_setChan (d := d.modifyEntry e fun r => { r with lifecycle := .retiring a m }) hd hx)

theorem retireHolders_setChan (d : Device) (e : EntryIx) (r : Record) (m : RetireMode) (ch : Agent) (x : Channel) :
    (d.setChan ch x).retireHolders e r m = (d.retireHolders e r m).setChan ch x := by
  unfold Device.retireHolders
  have hposts := foldl_setChan (f := fun d (h : Holder) => d.post e h.agent .retiring) (ch := ch) (x := x)
    (fun d h => post_setChan d e h.agent .retiring ch x) r.holders d
  rw [hposts]
  cases m with
  | drain => rfl
  | immediate =>
    exact foldl_setChan (f := fun d (h : Holder) => (d.endGrant e h.agent).post e h.agent .revoked)
      (fun d h => post_setChan (d.endGrant e h.agent) e h.agent .revoked ch x) r.holders _

/-! ### A RETIRE as a whole -/

/-- The device after a RETIRE by agent `a` of the LIVE entry `e` with record `r` (R101, R102, R104). -/
def Device.retired (d : Device) (e : EntryIx) (r : Record) (a : Agent) (m : RetireMode) : Device :=
  (((d.retireQueue e r a m).retireHolders e r m).evaluate e).checkDrain e

theorem retired_setChan (hd : (d.chan ch).state ≠ .inFlight) (hx : x.state ≠ .inFlight) :
    (d.setChan ch x).retired e r a m = (d.retired e r a m).setChan ch x := by
  unfold Device.retired
  rw [retireQueue_setChan hd hx, retireHolders_setChan,
    setChan_of_withChannels (f := (·.evaluate e)) (fun v => evaluate_withChannels _ v e) (onlyEntry_evaluate ..).channels,
    setChan_of_withChannels (f := (·.checkDrain e)) (fun v => checkDrain_withChannels _ v e) (onlyEntry_checkDrain ..).channels]

theorem leavesElse_tellWaiter (d : Device) (e : EntryIx) (c : WaitCell) (code : ResultCode) (k : NoticeKind) :
    LeavesElse e d (d.tellWaiter e c code k) := by
  unfold Device.tellWaiter
  split
  · exact .refl e d
  · exact (onlyEntry_post ..).leavesElse

theorem leavesElse_retireQueue (d : Device) (e : EntryIx) (r : Record) (a : Agent) (m : RetireMode) :
    LeavesElse e d (d.retireQueue e r a m) := by
  refine ((onlyEntry_modifyEntry d e _ ?_).leavesElse.trans
    (LeavesElse.foldl (fun d c => leavesElse_tellWaiter d e c .retiring .retiring) _ _)).trans
    (onlyEntry_modifyEntry _ e _ ?_).leavesElse
  · exact fun _ => rfl
  · exact fun _ => rfl

/-- After the waits have ended a RETIRE goes on with its own entry alone. -/
theorem onlyEntry_retired (d : Device) (e : EntryIx) (r : Record) (a : Agent) (m : RetireMode) :
    OnlyEntry e (d.retireQueue e r a m) (d.retired e r a m) :=
  ((onlyEntry_retireHolders ..).trans (onlyEntry_evaluate ..)).trans (onlyEntry_checkDrain ..)

theorem leavesElse_retired (d : Device) (e : EntryIx) (r : Record) (a : Agent) (m : RetireMode) : LeavesElse e d (d.retired e r a m) :=
  (leavesElse_retireQueue ..).trans (onlyEntry_retired ..).leavesElse

theorem chan_retired_flying (hn : (r.queue.map (·.agent)).Nodup) (hm : c ∈ r.queue) (hf : d.inFlightOn c.agent e = true) :
    (d.retired e r a m).chan c.agent = (d.chan c.agent).endedRetiring c :=
  (chan_of_channels (onlyEntry_retired ..).channels _).trans (chan_tellWaiters_flying (d := d.modifyEntry e _) hn hm hf)

theorem chan_retired_other (h : d.inFlightOn b e = false ∨ r.waitedBy b = false) : (d.retired e r a m).chan b = d.chan b :=
  (chan_of_channels (onlyEntry_retired ..).channels _).trans
    (chan_tellWaiters_other (d := d.modifyEntry e _) (h.imp id waitedBy_eq_false.mp))

theorem ticket_checkDrain (d : Device) (e : EntryIx) : (d.checkDrain e).ticket = d.ticket := by
  unfold Device.checkDrain
  split
  · rfl
  · split
    · rfl
    · split
      · exact ticket_drain ..
      · rfl

/-- What a RETIRE has told before its drain. -/
theorem tells_retired (d : Device) (e : EntryIx) (r : Record) (a : Agent) (m : RetireMode) :
    Tells e d (((d.retireQueue e r a m).retireHolders e r m).evaluate e) :=
  ((Tells.retireQueue ..).trans (.retireHolders ..)).trans (.evaluate ..)

theorem ticket_retired (d : Device) (e : EntryIx) (r : Record) (a : Agent) (m : RetireMode) : (d.retired e r a m).ticket = d.ticket :=
  (ticket_checkDrain ..).trans (tells_retired ..).ticket

/-! ### An entry that stays RETIRING (R101, R102) -/

/-- The record after the waits have ended (R101). -/
def Record.retiredBy (r : Record) (a : Agent) (m : RetireMode) : Record := { r with lifecycle := .retiring a m, queue := [] }

/-- In DRAIN mode, or where nobody holds the entry, its holders are told and nothing more. -/
theorem retireHolders_kept (h : m = .drain ∨ r.holders = []) :
    d.retireHolders e r m = r.holders.foldl (fun d h => d.post e h.agent .retiring) d := by
  unfold Device.retireHolders
  cases m with
  | drain => rfl
  | immediate =>
    have hh : r.holders = [] := h.resolve_left nofun
    rw [hh]
    rfl

/-- What an evaluation makes of a holder depends on the roster alone. -/
theorem evaluated_congr (h : d'.agents = d.agents) (r : Record) (x : Holder) : evaluated d' r x = evaluated d r x := by
  unfold evaluated
  rw [agent_of_agents h]

/-- No drain: somebody holds the entry still, or a switch is in flight (R104). -/
theorem retired_kept (hr : d.entry e = some r) (h : m = .drain ∧ r.holders ≠ [] ∨ r.holders = [] ∧ r.isSwitching = true) :
    (d.retired e r a m).entry e = some ((r.retiredBy a m).evaluatedOn d) ∧
    d.retired e r a m = ((d.retireQueue e r a m).retireHolders e r m).evaluate e := by
  have hkept : m = .drain ∨ r.holders = [] := h.imp And.left And.left
  have htold : Tells e d ((d.retireQueue e r a m).retireHolders e r m) := (Tells.retireQueue ..).trans (.retireHolders ..)
  have hentry : ((d.retireQueue e r a m).retireHolders e r m).entry e = some (r.retiredBy a m) := by
    rw [retireHolders_kept hkept, entry_posts]
    exact entry_retireQueue hr r a m
  have heval : (((d.retireQueue e r a m).retireHolders e r m).evaluate e).entry e = some ((r.retiredBy a m).evaluatedOn d) := by
    rw [entry_evaluate_some hentry, Record.evaluatedOn, List.map_congr_left fun x _ => evaluated_congr htold.agents _ x]
    rfl
  have hstays : d.retired e r a m = ((d.retireQueue e r a m).retireHolders e r m).evaluate e := by
    refine (checkDrain_retiring heval rfl).trans (if_neg fun ⟨hh, hs⟩ => ?_)
    rcases h with ⟨-, h⟩ | ⟨-, h⟩
    · exact h (List.map_eq_nil_iff.mp hh)
    · exact Bool.false_ne_true (hs.symm.trans h)
  exact ⟨hstays ▸ heval, hstays⟩

theorem retiringPending_kept (h : m = .drain ∨ r.holders = []) (ho : d.Online b)
    (hb : r.heldBy b = true ∨ r.waitedBy b = true ∧ d.inFlightOn b e = false) :
    (((d.retireQueue e r a m).retireHolders e r m).evaluate e).RetiringPending e b := by
  refine (Tells.evaluate ..).retiring b ?_
  rcases hb with hb | ⟨hb, hf⟩
  · obtain ⟨y, hy, rfl⟩ := List.mem_map.mp (heldBy_iff.mp hb)
    rw [retireHolders_kept h]
    exact retiringPending_holdersTold hy ((Tells.retireQueue ..).online ho)
  · obtain ⟨c, hc, rfl⟩ := List.mem_map.mp (waitedBy_iff.mp hb)
    exact (Tells.retireHolders ..).retiring _ (retiringPending_retireQueue hc ho hf)

/-! ### An entry that is drained (R102, R104 to R106) -/

/-- A record that may be drained once the grants of the agents of `l` have ended: it is RETIRING, no switch is in flight, and whoever
holds it is among them. -/
structure Record.Drains (r : Record) (g : Option GroupIx) (a : Agent) (m : RetireMode) (l : List Agent) : Prop where
  lifecycle : r.lifecycle = .retiring a m
  group : r.group = g
  still : r.isSwitching = false
  holders : ∀ h ∈ r.holders, h.agent ∈ l

theorem Record.Drains.withoutGrant {g : Option GroupIx} {l : List Agent} (h : r.Drains g a m (b :: l)) :
    (r.withoutGrant b).Drains g a m l where
  lifecycle := h.lifecycle
  group := h.group
  still := (plain_iff.mp (plain_occupancyOf _)).1
  holders y hy := by
    obtain ⟨hy, hb⟩ := List.mem_filter.mp hy
    exact (List.mem_cons.mp (h.holders y hy)).resolve_left (of_decide_eq_true hb)

theorem Record.Drains.vacant {g : Option GroupIx} (h : r.Drains g a m []) : r.holders = [] :=
  List.eq_nil_iff_forall_not_mem.mpr fun y hy => List.not_mem_nil (h.holders y hy)

/-- The grants revoked one after another leave nobody on the entry. -/
theorem drains_revoked {g : Option GroupIx} {l : List Holder} (hr : d.entry e = some r) (h : r.Drains g a m (l.map (·.agent))) :
    ∃ r', (l.foldl (fun d h => (d.endGrant e h.agent).post e h.agent .revoked) d).entry e = some r' ∧ r'.Drains g a m [] := by
  induction l generalizing d r with
  | nil => exact ⟨r, hr, h⟩
  | cons y l ih =>
    refine ih (r := r.withoutGrant y.agent) ?_ h.withoutGrant
    rw [entry_post, endGrant_eq hr, entry_putRecord, if_pos rfl]

/-- IMMEDIATE mode revokes every grant, and an entry that nobody holds needs no revocation. -/
theorem drains_retireHolders (hr : d.entry e = some r) (h : m = .immediate ∨ r.holders = []) (hs : r.isSwitching = false) :
    ∃ r', ((d.retireQueue e r a m).retireHolders e r m).entry e = some r' ∧ r'.Drains r.group a m [] := by
  have hall : (r.retiredBy a m).Drains r.group a m (r.holders.map (·.agent)) :=
    ⟨rfl, rfl, hs, fun y hy => List.mem_map_of_mem hy⟩
  have htold : (r.holders.foldl (fun d h => d.post e h.agent .retiring) (d.retireQueue e r a m)).entry e =
      some (r.retiredBy a m) := (entry_posts ..).trans (entry_retireQueue hr r a m)
  cases m with
  | drain =>
    rw [h.resolve_left nofun] at hall
    exact ⟨_, htold, hall⟩
  | immediate => exact drains_revoked htold hall

/-- The evaluation finds nobody to ask, and the drain follows (R104). -/
theorem retired_drained (hr : d.entry e = some r) (h : m = .immediate ∨ r.holders = []) (hs : r.isSwitching = false) :
    ∃ x r', Tells e d x ∧ r'.group = r.group ∧ d.retired e r a m = x.drain e r' a := by
  obtain ⟨r', hr', hd⟩ := drains_retireHolders (a := a) hr h hs
  have hvacant : ((d.retireQueue e r a m).retireHolders e r m).evaluate e = (d.retireQueue e r a m).retireHolders e r m :=
    evaluate_vacant fun y hy => by
      cases hr'.symm.trans hy
      exact hd.vacant
  refine ⟨_, r', tells_retired d e r a m, hd.group, ?_⟩
  refine (checkDrain_retiring ?_ hd.lifecycle).trans (if_pos ⟨hd.vacant, hd.still⟩)
  rw [hvacant, hr']

/-- A drain leaves RETIRE_DONE alone, which an ONLINE requester gets (R106). -/
theorem kinds_drain (ho : d.Online a) (e : EntryIx) (r : Record) (b : Agent) :
    ((d.drain e r a).notice e b).kinds = { retireDone := (d.notice e b).kinds.retireDone || b == a } := by
  rw [notice_drain]
  split
  · next h => simp [kinds_add_retireDone, h.1]
  · next h =>
    have hb : (b == a) = false := by simpa using fun hb : b = a => h ⟨hb.symm, ho⟩
    simp [kinds_keepRetireDone, hb]

/-! ### The command (R100) -/

theorem mayRetire_iff : d.mayRetire a r m = true ↔ d.controlHolder = some a ∨ (m = .drain ∧ r.origin = .plain a) := by
  cases m <;> simp [Device.mayRetire]

theorem retireModeOf_eq_none {v : Byte} (h : v = 0 ∨ 2 < v.toNat) : retireModeOf v = none := by
  have h1 : v ≠ 1 := by rintro rfl; revert h; decide
  have h2 : v ≠ 2 := by rintro rfl; revert h; decide
  rw [retireModeOf, if_neg h1, if_neg h2]

theorem retireModeOf_eq_some {v : Byte} (h : (v = 1 ∧ m = .drain) ∨ (v = 2 ∧ m = .immediate)) : retireModeOf v = some m := by
  rcases h with ⟨rfl, rfl⟩ | ⟨rfl, rfl⟩ <;> rfl

theorem takeRetire_noMode (hl : d.lookup p.handle = .ok (e, r)) (hm : retireModeOf p.mode = none) :
    takeRetire ch p d = done d .badParam := by
  simp only [takeRetire, hl, hm]

section
variable (hl : d.lookup p.handle = .ok (e, r)) (hm : retireModeOf p.mode = some m)
include hl hm

theorem takeRetire_notPermitted (h : e = 0 ∨ d.mayRetire ch r m = false) : takeRetire ch p d = done d .notPermitted := by
  simp only [takeRetire, hl, hm]
  by_cases he : e = 0
  · rw [if_pos he]
  · rw [if_neg he, if_pos (h.resolve_left he)]

theorem takeRetire_permitted (he : e ≠ 0) (hp : d.mayRetire ch r m = true) :
    takeRetire ch p d = if r.isRetiring then done d .wrongState else done (d.retired e r ch m) .ok := by
  simp only [takeRetire, hl, hm]
  rw [if_neg he, if_neg (by rw [hp]; decide)]
  rfl

end

/-- A RETIRE that is not refused ends OK, and its own channel plays no part in it. -/
theorem exec_retire_ok (h : StartsOnline s d ch .retire w d₁) (hl : d₁.lookup (d₁.params ch).handle = .ok (e, r))
    (hm : retireModeOf (d₁.params ch).mode = some m) (he : e ≠ 0) (hp : d₁.mayRetire ch r m = true) (hlive : r.lifecycle = .live) :
    exec (.retire ch w) s = .next (s.withDev ((d₁.retired e r ch m).answered ch .retire { result := .ok })) := by
  have hready : (d₁.chan ch).state ≠ .inFlight := by rw [h.starts.ready]; decide
  have hchan : (d₁.retired e r ch m).chan ch = d₁.chan ch := chan_retired_other (.inl (inFlightOn_eq_false hready e))
  have htake : takeRetire ch ((d₁.params ch).latch .retire) (d₁.started ch .retire) =
      done ((d₁.retired e r ch m).started ch .retire) .ok := by
    rw [takeRetire_permitted (d := d₁.started ch .retire) (p := (d₁.params ch).latch .retire) hl hm he hp,
      isRetiring_of_live hlive, Device.started, retired_setChan hready (by simp [Channel.start]), Device.started, hchan]
    rfl
  refine (onLive_live h.starts.live _).trans ?_
  rw [commandWrite_online h rfl, htake, writeBack_done]

/-- Settles O46: the refusals in the order of R100, then the RETIRE as a whole, for an entry that stays RETIRING and for one that is
drained. -/
theorem retireEndsTheWaits : Obligations.RetireEndsTheWaits := by
  intro s d d₁ ch w e r hs p hl ends permitted
  have refused (code : ResultCode) (ht : ∀ v, takeRetire ch (p.latch .retire) (d₁.withChannels v) = done (d₁.withChannels v) code) :
      ends d₁ code := exec_of_refused hs rfl ht
  refine ⟨fun h => refused _ fun v => takeRetire_noMode (e := e) (r := r) hl (retireModeOf_eq_none h), fun m hmode => ?_⟩
  have hm : retireModeOf p.mode = some m := retireModeOf_eq_some hmode
  refine ⟨fun h => refused _ fun v => ?_, fun he hp hlive => refused _ fun v => ?_, fun he hp hlive hn =>
    ⟨d₁.retired e r ch m, exec_retire_ok hs hl hm he (mayRetire_iff.mpr hp) hlive, leavesElse_retired d₁ e r ch m,
      ticket_retired d₁ e r ch m, fun c hc hf => chan_retired_flying hn hc hf, fun a ha => chan_retired_other ha,
      fun h => ?_, fun h hsw => ?_⟩⟩
  · refine takeRetire_notPermitted (e := e) (r := r) hl hm (h.imp id fun h => ?_)
    exact Bool.eq_false_iff.mpr fun hp => h (mayRetire_iff.mp hp)
  · refine (takeRetire_permitted (d := d₁.withChannels v) hl hm he (mayRetire_iff.mpr hp)).trans ?_
    rw [if_pos (isRetiring_iff.mpr hlive)]
  · obtain ⟨hentry, hstays⟩ := retired_kept (a := ch) (lookup_entry hl) h
    refine ⟨hentry, fun a ho ha => ?_⟩
    rw [hstays]
    exact retiringPending_kept (h.imp And.left And.left) ho ha
  · obtain ⟨x, r', htold, hgroup, hdrain⟩ := retired_drained (a := ch) (lookup_entry hl) h hsw
    rw [hdrain]
    refine ⟨?_, fun g hg => ?_, fun a => ?_⟩
    · rw [slot_drain, htold.generation]
      rfl
    · rw [Device.group, groups_drain, hgroup, hg]
      refine (tget_tset_same ..).trans ?_
      rw [Device.group, htold.groups]
      rfl
    · rw [kinds_drain (htold.online hs.online), htold.retireDone]

end

end Sys2Proof.Machine
end

section
/-!
PROOFS. Steering (R113, R117 to R120, R125): CLEAR FAULT, the edges of STDONE, the settle of a switch and the steering
outputs.
-/
namespace Sys2Proof.Machine

section
variable {s : State} {d : Device} {g : GroupIx} {b : Binding} {e : EntryIx} {r : Record} {c : WaitCell} {x : GroupRec} {a : Agent}

/-- The record of an entry that leaves SWITCHING or FAULTED with nobody holding it (R120, R125). -/
def Record.vacated (r : Record) : Record := { r with occupancy := .idle }

/-! ### CLEAR FAULT (R125) -/

/-- The group of a cleared fault (R125). -/
def GroupRec.faultCleared (x : GroupRec) : GroupRec := { x with state := .settled, settleKnown := false }

/-- The device after a CLEAR FAULT of group `g`, bound to entry `e` with record `r` (R125). -/
def Device.faultCleared (d : Device) (g : GroupIx) (e : EntryIx) (r : Record) : Device :=
  ((d.setGroup g (d.group g).faultCleared).putRecord e r.vacated).handOn e

theorem clearGroupFault_eq (hb : (d.group g).binding = some b) (hr : d.entry b.entry = some r) :
    d.clearGroupFault g = d.faultCleared g b.entry r := by
  unfold Device.clearGroupFault
  dsimp only
  split
  · next h => rw [hb] at h; cases h
  · next b' h =>
    cases hb.symm.trans h
    rw [modifyEntry_eq_putRecord (d := d.setGroup g _) hr]
    rfl

theorem faultCleared_withChannels (v : Vector Channel 8) :
    (d.withChannels v).faultCleared g e r = (d.faultCleared g e r).withChannels v :=
  handOn_withChannels ((d.setGroup g (d.group g).faultCleared).putRecord e r.vacated) v e

theorem groupOf_outside {v : Byte} (h : v = 0 ∨ 4 < v.toNat) : groupOf v = none := by
  rcases h with rfl | h
  · rfl
  · exact groupOf_bad h

theorem takeClearFault_noGroup {p : Params} (h : groupOf p.group = none) : takeClearFault a p d = done d .badParam := by
  rw [takeClearFault, h]

theorem takeClearFault_eq {p : Params} (h : groupOf p.group = some g) : takeClearFault a p d =
    if (d.group g).state = .faulted then done (d.clearGroupFault g) .ok else done d .wrongState := by
  rw [takeClearFault, h]

/-! ### The edges of STDONE (R113) -/

/-- The state with the level `v` on STDONE of group `g`. -/
def State.withStdone (s : State) (g : GroupIx) (v : Bool) : State :=
  { s with pins := { s.pins with stdoneHigh := tset s.pins.stdoneHigh g v } }

theorem Live.withStdone (h : Live s d) (g : GroupIx) (v : Bool) : Live (s.withStdone g v) d := ⟨h.dev, h.free⟩

theorem riseOf_high (h : tget s.pins.stdoneHigh g = true) : riseOf g s = .next s := if_pos h

theorem riseOf_low (h : tget s.pins.stdoneHigh g = false) :
    riseOf g s = (s.withStdone g true).onLive fun d => d.stdoneRise g := if_neg (by rw [h]; decide)

theorem execStdoneFall_low (h : tget s.pins.stdoneHigh g = false) : execStdoneFall g s = .next s :=
  if_neg (by rw [h]; decide)

theorem execStdoneFall_high (h : tget s.pins.stdoneHigh g = true) :
    execStdoneFall g s = (s.withStdone g false).onLive fun d => d.stdoneFall g := if_pos h

/-- Without its retention supply, or held, the part notes the level of STDONE alone. -/
theorem onLive_withStdone_idle (h : s.dev = none ∨ s.held = true) (v : Bool) (f : Device → Device) :
    (s.withStdone g v).onLive f = .next (s.withStdone g v) :=
  h.elim (fun hd => onLive_absent (s := s.withStdone g v) hd f) fun hh => onLive_held (s := s.withStdone g v) hh f

/-- The rows SETTLE and STDONE_RISE are both a rise of STDONE. -/
theorem exec_rise {i : Instr} (h : i = .settle g ∨ i = .stdoneRise g) (s : State) : exec i s = riseOf g s := by
  rcases h with rfl | rfl <;> rfl

theorem exec_rise_live {i : Instr} (hi : i = .settle g ∨ i = .stdoneRise g) (hlow : tget s.pins.stdoneHigh g = false)
    (hl : Live s d) : exec i s = .next ((s.withStdone g true).withDev (d.stdoneRise g)) := by
  rw [exec_rise hi, riseOf_low hlow, onLive_live (hl.withStdone g true)]

theorem exec_fall_live (hhigh : tget s.pins.stdoneHigh g = true) (hl : Live s d) :
    exec (.stdoneFall g) s = .next ((s.withStdone g false).withDev (d.stdoneFall g)) :=
  (execStdoneFall_high hhigh).trans (onLive_live (hl.withStdone g false) _)

/-! ### The settle (R119, R120) -/

theorem stdoneRise_other (h : (d.group g).state ≠ .switching ∨ ∀ n, (d.group g).phase ≠ some (.requesting n)) :
    d.stdoneRise g = d.setGroup g { d.group g with stdone := true } :=
  if_neg fun hq => by
    obtain ⟨hs, n, hp⟩ := requesting_iff.mp hq
    exact h.elim (· hs) (· n hp)

/-- A rise of STDONE in phase REQUESTING writes the group and settles its entry. -/
theorem stdoneRise_settles {n : Nat} (hs : (d.group g).state = .switching) (hp : (d.group g).phase = some (.requesting n))
    (hb : (d.group g).binding = some b) (hr : d.entry b.entry = some r) :
    d.stdoneRise g = (d.setGroup g (d.group g).settled).settleEntry b.entry r := by
  rw [Device.stdoneRise, if_pos (requesting_iff.mpr ⟨hs, n, hp⟩)]
  unfold Device.settle
  dsimp only
  split
  · next h => rw [hb] at h; cases h
  · next b' h =>
    cases hb.symm.trans h
    split
    · next h => cases hr.symm.trans h
    · next r' h =>
      cases hr.symm.trans h
      rfl

theorem settleEntry_handsOn (hr : d.entry e = some r) (h : r.lifecycle ≠ .live ∨ r.targetCell = none) :
    d.settleEntry e r = (d.putRecord e r.vacated).handOn e := by
  have hmod : d.modifyEntry e (fun r => { r with occupancy := .idle }) = d.putRecord e r.vacated := modifyEntry_eq_putRecord hr _
  rcases settleEntry_cases d e r with ⟨c, ht, -⟩ | ⟨-, heq⟩
  · have hret := isRetiring_iff.mpr (h.resolve_right (by rw [ht]; simp))
    rw [Device.settleEntry, hret, hmod]
  · rw [heq, hmod]

theorem settleEntry_grants (hr : d.entry e = some r) (hl : r.lifecycle = .live) (ht : r.targetCell = some c) :
    d.settleEntry e r = ((d.putRecord e r.vacated).settleGrant e r c).evaluate e := by
  rw [Device.settleEntry, isRetiring_of_live hl, ht, modifyEntry_eq_putRecord hr]
  rfl

/-- The holder record that the settle of a switch makes from the target's cell (R76, R120). -/
def Record.settleHolder (r : Record) (c : WaitCell) (t : Ticket) : Holder :=
  { agent := c.agent, mode := .exclusive, ticket := t, priority := c.priority, remaining := termGranted r c.term }

/-- The record of an entry after its switch has settled and the target's cell has been granted (R120). -/
def Record.settledFor (r : Record) (c : WaitCell) (t : Ticket) : Record :=
  { r.withoutCell c.agent with holders := [r.settleHolder c t], occupancy := .heldX }

/-- What the grant of the target's cell writes, before its agent is told. -/
theorem settle_newGrant (hh : r.holders = []) :
    ((d.putRecord e r.vacated).removeCell e c.agent).newGrant e c.agent .exclusive c.priority (termGranted r c.term) =
      (d.withTicket (nextTicket d.ticket)).putRecord e (r.settledFor c d.ticket) := by
  have hr : ∀ q, (d.putRecord e q).entry e = some q := fun q => (entry_putRecord ..).trans (if_pos rfl)
  have hrec : (r.vacated.withoutCell c.agent).withHolder (r.settleHolder c d.ticket) = r.settledFor c d.ticket := by
    simp [Record.withHolder, Record.vacated, Record.withoutCell, hh, Record.settledFor, occupancyOf, Record.settleHolder]
  rw [removeCell_eq (hr _), putRecord_putRecord, newGrant_eq (hr _), ← hrec]
  exact putRecord_putRecord (d.withTicket (nextTicket d.ticket)) ..

section
variable (hr : d.entry e = some r) (hl : r.lifecycle = .live) (ht : r.targetCell = some c) (hh : r.holders = [])
include hr hl ht hh

theorem settleEntry_inFlight (hf : d.inFlightOn c.agent e = true) : d.settleEntry e r =
    (((d.withTicket (nextTicket d.ticket)).putRecord e (r.settledFor c d.ticket)).finish c.agent .request
      (grantedResults c.priority d.ticket .exclusive (termGranted r c.term))).evaluate e := by
  rw [settleEntry_grants hr hl ht, ← settle_newGrant hh]
  exact congrArg (Device.evaluate · e) (if_pos hf)

theorem settleEntry_told (hf : d.inFlightOn c.agent e = false) : d.settleEntry e r =
    (((d.withTicket (nextTicket d.ticket)).putRecord e (r.settledFor c d.ticket)).post e c.agent .granted).evaluate e := by
  rw [settleEntry_grants hr hl ht, ← settle_newGrant hh]
  exact congrArg (Device.evaluate · e) (if_neg (Bool.eq_false_iff.mp hf))

end

/-! ### The fall of STDONE (R118) -/

theorem isDeferred_iff : x.isDeferred = true ↔ x.state = .switching ∧ x.phase = some .deferred := by
  simp [GroupRec.isDeferred]

theorem stdoneFall_other (h : (d.group g).state ≠ .switching ∨ (d.group g).phase ≠ some .deferred) :
    d.stdoneFall g = d.setGroup g { d.group g with stdone := false } :=
  if_neg fun hq => by
    obtain ⟨hs, hp⟩ := isDeferred_iff.mp hq
    exact h.elim (· hs) (· hp)

theorem stdoneFall_drives {t : SwitchTarget} (hs : (d.group g).state = .switching) (hp : (d.group g).phase = some .deferred)
    (hb : (d.group g).binding = some b) (hr : d.entry b.entry = some r) (ho : r.occupancy = .switching t) :
    d.stdoneFall g = d.setGroup g ({ d.group g with stdone := false }.enterRequesting b t) := by
  have hocc : (d.entry b.entry).map Record.occupancy = some (.switching t) := by rw [hr, ← ho]; rfl
  refine (if_pos (isDeferred_iff.mpr ⟨hs, hp⟩)).trans ?_
  split
  · next h => rw [hb] at h; cases h
  · next b' h =>
    cases hb.symm.trans h
    rw [hocc]

/-! ### The steering outputs (R113) -/

theorem pins_of_agent (h : x.select = .agent a) : x.pins.stpark = false ∧ x.pins.stsel.toNat = a.val := by
  have hlt : a.val < 2 ^ 3 := a.isLt
  simp only [GroupRec.pins, h, BitVec.toNat_ofNat, Nat.mod_eq_of_lt hlt, and_true]
  rfl

theorem pins_of_park (h : x.select = .park) : x.pins.stpark = true ∧ x.pins.stsel = 0 := by
  simp [GroupRec.pins, h]

theorem streq_eq_requesting (x : GroupRec) : x.pins.streq = x.requesting := rfl

end

/-- Settles O47: the group number outside its range, the group without a fault, and the fault cleared. -/
theorem clearFaultHandsOn : Obligations.ClearFaultHandsOn := by
  intro s d d₁ ch w h ends
  refine ⟨fun hout => exec_of_control h rfl fun v => takeClearFault_noGroup (a := ch) (groupOf_outside hout), fun g hg => ?_⟩
  have take (v) : takeClearFault ch ((d₁.params ch).latch .clearFault) (d₁.withChannels v) = _ :=
    takeClearFault_eq (a := ch) (groupOf_eq_some hg)
  refine ⟨fun hs => exec_of_control h rfl fun v => (take v).trans (if_neg hs), fun b r hs hb hr =>
    exec_of_control (d' := d₁.faultCleared g b.entry r) h (channels_handOn ..) fun v =>
    ((take v).trans (if_pos hs)).trans ?_⟩
  rw [clearGroupFault_eq (d := d₁.withChannels v) hb hr, faultCleared_withChannels]
  rfl

/-- Settles O48: the rise that is no edge, the rise of a part that takes no events, the level noted alone, and the settle with its
target cell granted or its entry handed on. -/
theorem settleGrantsTheTarget : Obligations.SettleGrantsTheTarget := by
  intro s g i hi
  refine ⟨fun hhigh => (exec_rise hi s).trans (riseOf_high hhigh), fun hlow => ⟨fun hidle => ?_, fun d hl => ?_⟩⟩
  · rw [exec_rise hi, riseOf_low hlow]
    exact onLive_withStdone_idle hidle true _
  have ends {d₂ : Device} (h : d.stdoneRise g = d₂) : exec i s = .next ((s.withStdone g true).withDev d₂) :=
    h ▸ exec_rise_live hi hlow hl
  refine ⟨fun h => ends (stdoneRise_other h), fun n b r hs hp hb hr hh hn => ?_⟩
  have hsettle := stdoneRise_settles hs hp hb hr
  refine ⟨fun a c hlive ho hc ha ht => ?_, fun h => ends ?_⟩
  · have htarget := targetCell_some hn ho hc ha ht
    subst ha
    exact ⟨fun hf => ends (hsettle.trans (settleEntry_inFlight (d := d.setGroup g _) hr hlive htarget hh hf)),
      fun hf => ends (hsettle.trans (settleEntry_told (d := d.setGroup g _) hr hlive htarget hh hf))⟩
  · exact hsettle.trans (settleEntry_handsOn (d := d.setGroup g _) hr (h.imp_right targetCell_none))

/-- Settles O49: the outputs as functions of the group record, and the fall of STDONE by whether it drives a deferred switch. -/
theorem fallDrivesADeferredSwitch : Obligations.FallDrivesADeferredSwitch := by
  refine ⟨fun s d g hd => ⟨(d.group g).pins, by rw [State.steerPins, hd]; rfl, fun a => pins_of_agent, pins_of_park, ?_⟩,
    fun s g => ⟨execStdoneFall_low, fun hhigh => ⟨fun hidle => ?_, fun d hl => ?_⟩⟩⟩
  · rw [streq_eq_requesting]
    exact requesting_iff
  · exact (execStdoneFall_high hhigh).trans (onLive_withStdone_idle hidle false _)
  · have ends {d₂ : Device} (h : d.stdoneFall g = d₂) :
        exec (.stdoneFall g) s = .next ((s.withStdone g false).withDev d₂) := h ▸ exec_fall_live hhigh hl
    refine ⟨fun h => ends (stdoneFall_other h), fun b r t hs hp hb hr ho => ?_⟩
    refine (ends (stdoneFall_drives hs hp hb hr ho)).trans ?_
    cases t <;> rfl

end Sys2Proof.Machine
end

section
/-!
PROOFS. UNFENCE and SET AGENT, and ATTACH from OFFLINE and ONLINE (R135, R143, R144, R151): what their rules do with the agent
record, and the free control lease handed on to the boot agent as one write and a post.
-/
namespace Sys2Proof.Machine

section
variable {s : State} {d d₁ : Device} {ch a x : Agent} {w : Writes} {r : Record} {p : Params}

/-! ### UNFENCE (R143) -/

theorem takeUnfence_noAgent (h : 7 < p.agent.toNat) : takeUnfence ch p d = done d .badParam := by
  rw [takeUnfence, agentOf_eq_none h]

theorem takeUnfence_eq (h : p.agent.toNat = x.val) : takeUnfence ch p d =
    if (d.agent x).state = .fenced then done (d.setRoster x .offline) .ok else done d .wrongState := by
  rw [takeUnfence, agentOf_eq_some h]

/-- Every agent record of a cold reset is OFFLINE (Table 44). -/
theorem offline_cold (b : Agent) (p : Pins) (a : Agent) : ((Device.cold b p).agent a).state = .offline := by
  simp [Device.agent, Device.cold, AgentRec.cold]

/-- Settles O27: the three cases of the rule of UNFENCE, and the agent records of a cold reset. -/
theorem unfenceMakesOffline : Obligations.UnfenceMakesOffline := by
  refine ⟨fun s d d₁ ch w h => ⟨fun h7 => exec_control_refused h fun v => takeUnfence_noAgent (ch := ch) h7, fun x hx => ?_⟩,
    fun s b => ⟨.cold b.toFin s.pins, rfl, offline_cold _ _⟩⟩
  have take (v) : takeUnfence ch ((d₁.params ch).latch .unfence) (d₁.withChannels v) = _ :=
    takeUnfence_eq (ch := ch) hx
  exact ⟨fun hst => exec_control_refused h fun v => (take v).trans (if_neg hst),
    fun hst => exec_of_control (d' := d₁.setRoster x .offline) h rfl fun v => (take v).trans (if_pos hst)⟩

/-! ### SET AGENT (R144, Table 48) -/

/-- A parameter of SET AGENT is out of range (Table 48). -/
def Params.BadAgent (p : Params) : Prop :=
  7 < p.agent.toNat ∨ p.holdq = 0 ∨ 32 < p.holdq.toNat ∨ p.waitq = 0 ∨ 8 < p.waitq.toNat ∨ 3 < p.cap.toNat

theorem priorityOf_eq_some {v : Byte} {k : Priority} (h : v.toNat = k.val) : priorityOf v = some k := by
  rw [priorityOf, dif_pos (by omega)]
  exact congrArg some (Fin.ext h)

theorem agentParams_badQuota (h : ¬ (1 ≤ p.holdq.toNat ∧ p.holdq.toNat ≤ 32 ∧ 1 ≤ p.waitq.toNat ∧ p.waitq.toNat ≤ 8)) :
    agentParams p = none := by
  unfold agentParams
  split
  · exact if_neg h
  · rfl

theorem agentParams_bad (h : p.BadAgent) : agentParams p = none := by
  rcases h with h | h | h | h | h | h
  · rw [agentParams, agentOf_eq_none h]
  · exact agentParams_badQuota (by simp [h])
  · exact agentParams_badQuota (by omega)
  · exact agentParams_badQuota (by simp [h])
  · exact agentParams_badQuota (by omega)
  · rw [agentParams, priorityOf_bad h]
    cases agentOf p.agent <;> rfl

theorem agentParams_good {k : Priority} (ha : p.agent.toNat = x.val) (hc : p.cap.toNat = k.val) (hh : 1 ≤ p.holdq.toNat)
    (hh' : p.holdq.toNat ≤ 32) (hw : 1 ≤ p.waitq.toNat) (hw' : p.waitq.toNat ≤ 8) :
    agentParams p = some (x, p.holdq.toNat, p.waitq.toNat, k, p.options.getLsbD 2) := by
  rw [agentParams, agentOf_eq_some ha, priorityOf_eq_some hc]
  exact if_pos ⟨hh, hh', hw, hw'⟩

/-- SET AGENT reads bit 2 of OPTIONS, and latches it (Table 69). -/
theorem agentParams_latch (p : Params) : agentParams (p.latch .setAgent) = agentParams p := by
  have hbit : (p.options &&& 0x04).getLsbD 2 = p.options.getLsbD 2 := by simp
  simp only [agentParams, Params.latch, hbit]

theorem takeSetAgent_bad (h : p.BadAgent) : takeSetAgent ch (p.latch .setAgent) d = done d .badParam := by
  rw [takeSetAgent, agentParams_latch, agentParams_bad h]

/-- SET AGENT with its parameters in range looks at the counts that stand against the new quotas. -/
theorem takeSetAgent_eq {hq wq : Nat} {k : Priority} {c : Bool} (h : agentParams p = some (x, hq, wq, k, c)) :
    takeSetAgent ch (p.latch .setAgent) d =
      if hq < d.holdCount x + d.nonUpgradeWaits x ∨ wq < d.waitCount x then
        (d, some { result := .inUse
                   window := .counts (d.holdCount x) (d.nonUpgradeWaits x) (d.waitCount x) })
      else done (d.setAgent x { state := (d.agent x).state, holdQuota := hq, waitQuota := wq, cap := k, create := c }) .ok := by
  rw [takeSetAgent, agentParams_latch, h]

/-- Settles O28: the parameters out of range, and the counts that stand against the new quotas or do not. -/
theorem setAgentWritesTheConfiguration : Obligations.SetAgentWritesTheConfiguration := by
  intro s d d₁ ch w h p
  refine ⟨fun hbad => exec_control_refused h fun v => takeSetAgent_bad (ch := ch) hbad, fun x k ha hc hh hh' hw hw' => ?_⟩
  have take (v) : takeSetAgent ch (p.latch .setAgent) (d₁.withChannels v) = _ :=
    takeSetAgent_eq (ch := ch) (agentParams_good ha hc hh hh' hw hw')
  refine ⟨fun hin => exec_of_control h rfl fun v => (take v).trans (if_pos hin), fun hhold hwait => ?_⟩
  have hfree : ¬ (p.holdq.toNat < d₁.holdCount x + d₁.nonUpgradeWaits x ∨ p.waitq.toNat < d₁.waitCount x) := by omega
  exact exec_of_control (d' := d₁.setAgent x _) h rfl fun v => (take v).trans (if_neg hfree)

/-! ### ATTACH from OFFLINE and ONLINE (R135, R151) -/

theorem attachInfo_setRoster (d : Device) (a : Agent) (n : Nat) (x : Roster) :
    (d.setRoster a x).attachInfo a n = d.attachInfo a n := by
  simp [Device.attachInfo, agent_setRoster]

theorem takeAttach_online (h : (d.agent a).state = .online) : takeAttach a p d = done d .wrongState := by
  rw [takeAttach, h]

theorem takeAttach_offline (h : (d.agent a).state = .offline) :
    takeAttach a p d = ((d.setRoster a .online).leaseHandedOn a, some (d.attachInfo a 0)) := by
  rw [takeAttach, h]
  exact congrArg (fun i => (_, some i)) (attachInfo_setRoster ..)

theorem leaseHandedOn_withChannels (d : Device) (v : Vector Channel 8) (a : Agent) :
    (d.withChannels v).leaseHandedOn a = (d.leaseHandedOn a).withChannels v := by
  unfold Device.leaseHandedOn
  rw [handOn_withChannels]
  exact (apply_ite (Device.withChannels · v) ..).symm

/-- ATTACH of an OFFLINE agent makes it ONLINE, with entry 0 handed on where it is the boot agent. -/
theorem exec_attach_offline (h : Starts s d ch .attach w d₁) (hst : (d₁.agent ch).state = .offline) :
    exec (.attach ch w) s =
      .next (s.withDev (((d₁.setRoster ch .online).leaseHandedOn ch).answered ch .attach (d₁.attachInfo ch 0))) :=
  exec_of_attachCheck h (by rw [hst]; rfl) rfl (onlyEntry_leaseHandedOn _ ch).channels fun v =>
    (takeAttach_offline (d := d₁.withChannels v) (p := {}) hst).trans (by rw [setRoster_withChannels, leaseHandedOn_withChannels]; rfl)

/-- Entry 0, free, handed on to the boot agent: its grant, and nothing to drain or to ask for. -/
theorem handOn_leased (hr : d.entry 0 = some r) (hd : r.decidable = true) (hg : r.group = none) (hh : r.holders = [])
    (hq : r.queue = []) (ho : (d.agent d.boot).state = .online)
    (hquota : d.holdCount d.boot + d.nonUpgradeWaits d.boot < (d.agent d.boot).holdQuota) :
    d.handOn 0 = (({ d with ticket := nextTicket d.ticket } : Device).putRecord 0
      { r with holders := [leaseHolder d.boot d.ticket], occupancy := .heldX }).post 0 d.boot .granted := by
  have hgrant := (controlLeaseGoesToTheBootAgent d 0 r hr hd hg hh hq).1 rfl ho hquota
  have he : (d.grantDecision 0).entry 0 = some { r with holders := [leaseHolder d.boot d.ticket], occupancy := .heldX } := by
    rw [hgrant, entry_post]
    exact (entry_putRecord ..).trans (if_pos rfl)
  have hkeep : (d.grantDecision 0).evaluate 0 = d.grantDecision 0 := by
    refine evaluate_keep he fun h hm => ?_
    rw [List.mem_singleton.mp hm]
    exact (congrArg (fun q => askOutcome r.policy q _ _) hq).trans (askOutcome_nil _ _ rfl)
  rw [Device.handOn, checkDrain_live he (show r.lifecycle = .live from live_of_decidable hd), hkeep]
  exact hgrant

/-- Settles O21: from OFFLINE the agent record, and entry 0 of the boot agent by the grant decision; from ONLINE a refusal. -/
theorem attachMakesOnline : Obligations.AttachMakesOnline := by
  intro s d d₁ ch w h x on info
  refine ⟨fun hst hb => ?_, fun hst hb => ⟨?_, fun r hr hd hg hh hq hquota => ?_⟩, fun hst => ?_⟩
  · have hlease : on.leaseHandedOn ch = on := if_neg hb
    exact (exec_attach_offline h hst).trans (by rw [← hlease]; rfl)
  · have hlease : on.leaseHandedOn ch = on.handOn 0 := if_pos hb
    exact (exec_attach_offline h hst).trans (by rw [← hlease]; rfl)
  · have hself : on.agent on.boot = { x with state := .online } :=
      (congrArg on.agent hb.symm).trans (by simp [on])
    subst hb
    exact handOn_leased (d := on) hr hd hg hh hq (by rw [hself]) (by rw [hself]; exact hquota)
  · exact exec_of_attachCheck h (by rw [hst]; rfl) rfl rfl fun v => takeAttach_online (d := d₁.withChannels v) (p := {}) hst

end

end Sys2Proof.Machine
end

section
/-!
PROOFS. DETACH and FENCE (R137, R138, R142), and the agent-reset input (R140, R141, R171, R175): departures, of an agent whose
channel has just started a command or gone into RESET.
-/
namespace Sys2Proof.Machine

section
variable {s : State} {d d' d₁ : Device} {as : List Agent} {dest : Roster} {ch a x : Agent} {c : Cmd} {w : Writes} {p : Params}

/-! ### A departure by command -/

/-- A departure with another content in a channel is a departure with that channel as it was, where it was not IN_FLIGHT. -/
theorem Departed.restore {y : Channel} (h : Departed as dest (d.setChan ch y) d') (hq : (d.chan ch).state ≠ .inFlight) :
    Departed as dest d (d'.setChan ch (d.chan ch)) := by
  have hchan : ∀ b, ch ≠ b → (d.setChan ch y).chan b = d.chan b := fun b hb => chan_setChan_ne hb d y
  exact
    { h with
      still := fun a ha hf => by
        by_cases hb : ch = a
        · rw [← hb, chan_setChan_self]
        · rw [chan_setChan_ne hb, h.still a ha (by rwa [hchan a hb]), hchan a hb]
      aborted := fun a ha e r k hf hr hs hk => by
        have hb : ch ≠ a := by
          rintro rfl
          exact hq (inFlight_of_inFlightOn hf)
        rw [chan_setChan_ne hb, h.aborted a ha e r k ((inFlightOn_of_chan (hchan a hb) e).trans hf) hr hs hk, hchan a hb]
      others := fun a ha => by
        obtain ⟨hag, hch⟩ := h.others a ha
        refine ⟨hag, ?_⟩
        by_cases hb : ch = a
        · rw [← hb, chan_setChan_self]
        · rw [chan_setChan_ne hb, hch, hchan a hb] }

/-- A departure leaves a channel that is not IN_FLIGHT. -/
theorem Departed.chan (h : Departed as dest d d') (hq : (d.chan a).state ≠ .inFlight) : d'.chan a = d.chan a := by
  by_cases ha : a ∈ as
  · exact h.still a ha hq
  · exact (h.others a ha).2

theorem finish_started (h : d'.chan ch = (d.chan ch).start c) (r : Results) :
    d'.finish ch c r = (d'.setChan ch (d.chan ch)).answered ch c r := by
  simp only [Device.finish, h, Device.setChan, Device.answered, tget_tset_same, tset_tset]
  rfl

/-- A departure of the device with a command just started, answered, is one of the device before the start, answered. -/
theorem departed_writeBack (hq : (d₁.chan ch).state ≠ .inFlight) (as : List Agent) (dest : Roster) (r : Results) :
    ∃ d₂, Departed as dest d₁ d₂ ∧
      writeBack ch c ((d₁.started ch c).depart as dest, some r) = d₂.answered ch c r := by
  have hdep := departed_depart (d₁.started ch c) as dest
  have hstart : (d₁.started ch c).chan ch = (d₁.chan ch).start c := chan_setChan_self ..
  exact ⟨_, hdep.restore hq, finish_started ((hdep.chan (by rw [hstart]; exact ChannelState.noConfusion)).trans hstart) r⟩

/-- A started command whose rule comes to a departure departs the device before the start, and is answered there. -/
theorem departed_of_commandWrite {take : Take} (h : Starts s d ch c w d₁) {r : Results}
    (hw : commandWrite c take ch w d = writeBack ch c ((d₁.started ch c).depart as dest, some r)) :
    ∃ d₂, Departed as dest d₁ d₂ ∧ s.onLive (commandWrite c take ch w) = .next (s.withDev (d₂.answered ch c r)) := by
  obtain ⟨d₂, hdep, hans⟩ := departed_writeBack (c := c) (d₁ := d₁) (ch := ch) (by rw [h.ready]; decide) as dest r
  exact ⟨d₂, hdep, by rw [onLive_live h.live, hw, hans]⟩

/-! ### The rule of FENCE (R142) -/

theorem takeFence_noAgent (h : 7 < p.agent.toNat) : takeFence ch p d = done d .badParam := by
  rw [takeFence, agentOf_eq_none h]

theorem takeFence_self (h : p.agent.toNat = ch.val) : takeFence ch p d = done d .notPermitted := by
  rw [takeFence, agentOf_eq_some h]
  exact if_pos rfl

section
variable (h : p.agent.toNat = x.val) (hx : x ≠ ch)
include h hx

theorem takeFence_fenced (hst : (d.agent x).state = .fenced) : takeFence ch p d = done d .wrongState := by
  simp [takeFence, agentOf_eq_some h, hx, hst]

theorem takeFence_offline (hst : (d.agent x).state = .offline) :
    takeFence ch p d = (d.setRoster x .fenced, some { result := .ok, count := some 0 }) := by
  simp [takeFence, agentOf_eq_some h, hx, hst]

theorem takeFence_departs (hst : (d.agent x).state = .online ∨ (d.agent x).state = .rejoining) :
    takeFence ch p d = (d.depart [x] .fenced, some { result := .ok, count := some (d.holdCount x) }) := by
  rcases hst with hst | hst <;> simp [takeFence, agentOf_eq_some h, hx, hst]

end

/-- Settles O23: DETACH and the last case of FENCE by `departed_of_commandWrite`, the other cases of FENCE by its rule. -/
theorem detachAndFenceDepart : Obligations.DetachAndFenceDepart := by
  refine ⟨fun s d d₁ ch w h => departed_of_commandWrite h.starts (commandWrite_online h rfl takeDetach),
    fun s d d₁ ch w h => ⟨fun h7 => exec_control_refused h fun v => takeFence_noAgent h7, fun x hx =>
      ⟨fun hc => ?_, fun hc hst => ?_, fun hc hst => ?_, fun hc hst => ?_⟩⟩⟩
  · exact exec_control_refused h fun v => takeFence_self (hc ▸ hx)
  · exact exec_control_refused h fun v => takeFence_fenced (d := d₁.withChannels v) hx hc hst
  · exact exec_of_control (d' := d₁.setRoster x .fenced) h rfl fun v => takeFence_offline (d := d₁.withChannels v) hx hc hst
  · have take : takeFence ch ((d₁.params ch).latch .fence) (d₁.started ch .fence) = _ :=
      takeFence_departs (d := d₁.started ch .fence) hx hc hst
    exact departed_of_commandWrite h.starts ((commandWrite_control h takeFence).trans (congrArg _ take))

/-! ### The agent-reset input (R140, R141) -/

/-- The state with the level `v` on AGRST# of agent `a`, true when low. -/
def State.withAgrst (s : State) (a : Agent) (v : Bool) : State :=
  { s with pins := { s.pins with agrstLow := tset s.pins.agrstLow a v } }

theorem Live.withAgrst (h : Live s d) (a : Agent) (v : Bool) : Live (s.withAgrst a v) d := ⟨h.dev, h.free⟩

/-- Without its retention supply, or held, the part notes the level of AGRST# alone. -/
theorem onLive_withAgrst_idle (h : s.dev = none ∨ s.held = true) (v : Bool) (f : Device → Device) :
    (s.withAgrst a v).onLive f = .next (s.withAgrst a v) :=
  h.elim (fun hd => onLive_absent (s := s.withAgrst a v) hd f) fun hh => onLive_held (s := s.withAgrst a v) hh f

theorem execAgrstFall_low (h : tget s.pins.agrstLow a = true) : execAgrstFall a s = .next s := if_pos h

theorem execAgrstFall_high (h : tget s.pins.agrstLow a = false) :
    execAgrstFall a s = (s.withAgrst a true).onLive fun d => d.agentReset a := if_neg (by rw [h]; decide)

theorem execAgrstRise_high (h : tget s.pins.agrstLow a = false) : execAgrstRise a s = .next s := if_neg (by rw [h]; decide)

theorem execAgrstRise_low (h : tget s.pins.agrstLow a = true) :
    execAgrstRise a s = (s.withAgrst a false).onLive fun d => d.agentUnreset a := if_pos h

theorem agentReset_departs (h : (d.agent a).state = .online ∨ (d.agent a).state = .rejoining) :
    d.agentReset a = (d.setChan a .inReset).depart [a] .offline := by
  have hag : (d.setChan a .inReset).agent a = d.agent a := rfl
  unfold Device.agentReset
  rcases h with h | h <;> simp only [hag, h]

theorem agentReset_stays (h : (d.agent a).state = .offline ∨ (d.agent a).state = .fenced) :
    d.agentReset a = d.setChan a .inReset := by
  have hag : (d.setChan a .inReset).agent a = d.agent a := rfl
  unfold Device.agentReset
  rcases h with h | h <;> simp only [hag, h]

/-- Settles O24: each edge taken by a live part, noted by another, and no edge where the level is there already. -/
theorem agentResetAndItsEnd : Obligations.AgentResetAndItsEnd := by
  intro s a
  refine ⟨fun hhigh => ⟨fun d hl => ?_, fun hidle => ?_, execAgrstRise_high hhigh⟩,
    fun hlow => ⟨fun d hl => ?_, fun hidle => ?_, execAgrstFall_low hlow⟩⟩
  · have ends {d₂ : Device} (h : d.agentReset a = d₂) :
        exec (.agrstFall a) s = .next ((s.withAgrst a true).withDev d₂) :=
      h ▸ (execAgrstFall_high hhigh).trans (onLive_live (hl.withAgrst a true) _)
    exact ⟨fun hst => ⟨_, departed_depart .., ends (agentReset_departs hst)⟩, fun hst => ends (agentReset_stays hst)⟩
  · exact (execAgrstFall_high hhigh).trans (onLive_withAgrst_idle hidle true _)
  · exact (execAgrstRise_low hlow).trans (onLive_live (hl.withAgrst a false) _)
  · exact (execAgrstRise_low hlow).trans (onLive_withAgrst_idle hidle false _)

end

end Sys2Proof.Machine
end

section
/-!
PROOFS. The check for the control holder (R147, R148), and CONFIGURE (R157).
-/
namespace Sys2Proof.Machine

section
variable {s : State} {d d₁ : Device} {ch a : Agent} {c : Cmd} {w : Writes} {p : Params}

/-! ### The check for the control holder (R147, R148) -/

/-- An agent that holds entry 0 in no mode but SHARED is not the control holder (R147). -/
theorem controlHolder_ne (h : ∀ r, d.entry 0 = some r → ∀ x ∈ r.holders, x.agent = a → x.mode ≠ .exclusive) :
    d.controlHolder ≠ some a := by
  intro hc
  obtain ⟨-, -, r, hr, x, hx, ha, hm⟩ := controlHolder_eq_some d hc
  exact h r hr x hx ha hm

/-- A control command of an ONLINE agent that is not the control holder ends before its rule is asked (R148). -/
theorem commandWrite_uncontrolled (h : StartsOnline s d ch c w d₁) (hc : isControlCommand c = true)
    (hn : d₁.controlHolder ≠ some ch) (take : Take) :
    commandWrite c take ch w d = d₁.answered ch c { result := .notPermitted } := by
  have honline : ((d₁.started ch c).agent ch).state = .online := h.online
  have hstarted : (d₁.started ch c).controlHolder ≠ some ch := hn
  have hjudge : (d₁.started ch c).judge ch c take = done (d₁.started ch c) .notPermitted := by
    rw [Device.judge, honline]
    exact if_pos ⟨hc, hstarted⟩
  rw [commandWrite_starts h.starts, hjudge, writeBack_done]

/-- Settles O12: the nine commands are those that the check stands before, and it comes before the rule of each. -/
theorem controlCheckRefuses : Obligations.ControlCheckRefuses := by
  intro s d d₁ ch c w h hc hholds
  have hcontrol : isControlCommand c = true := by
    revert hc
    cases c <;> decide
  rw [exec_commandRow, onLive_live h.starts.live, commandWrite_uncontrolled h hcontrol (controlHolder_ne hholds)]

/-! ### CONFIGURE (R157, Table 51) -/

/-- A parameter of CONFIGURE is out of range (Table 51). -/
def Params.BadConfig (p : Params) : Prop :=
  p.tickdiv.toNat < 1000 ∨ 50000 < p.tickdiv.toNat ∨ 60000 < p.reclaim.toNat ∨ p.plaindef = 0 ∨
    p.plainmax = 0 ∨ 1 < p.plainpol.toNat ∨ p.defswto = 0

/-- The six values as CONFIGURE writes them (Table 51). -/
def Params.config (p : Params) : DeviceConfig :=
  { tickDiv := p.tickdiv.toNat, window := p.reclaim.toNat, plainDef := p.plaindef.toNat
    plainMax := p.plainmax.toNat, plainAsk := p.plainpol == 1, swTimeout := p.defswto.toNat }

/-- No parameter is out of range exactly where the test of `configParams` holds. The PLAIN default term is not compared with the
PLAIN max term (R157). -/
theorem not_badConfig_iff : ¬ p.BadConfig ↔
    1000 ≤ p.tickdiv.toNat ∧ p.tickdiv.toNat ≤ 50000 ∧ p.reclaim.toNat ≤ 60000 ∧ 1 ≤ p.plaindef.toNat ∧
      1 ≤ p.plainmax.toNat ∧ (p.plainpol = 0 ∨ p.plainpol = 1) ∧ 1 ≤ p.defswto.toNat := by
  unfold Params.BadConfig
  bv_omega

theorem configParams_bad (h : p.BadConfig) : configParams p = none :=
  if_neg fun hr => not_badConfig_iff.mpr hr h

theorem configParams_good (h : ¬ p.BadConfig) : configParams p = some p.config :=
  if_pos (not_badConfig_iff.mp h)

/-- CONFIGURE latches the six values as they stand (Table 69). -/
theorem configParams_latch (p : Params) : configParams (p.latch .configure) = configParams p := rfl

theorem takeConfigure_bad (h : p.BadConfig) :
    takeConfigure ch (p.latch .configure) d = (d, some { result := .badParam, window := .values d.config }) := by
  rw [takeConfigure, configParams_latch, configParams_bad h]

theorem takeConfigure_good (h : ¬ p.BadConfig) : takeConfigure ch (p.latch .configure) d =
    ({ d with config := p.config }, some { result := .ok, window := .values p.config }) := by
  rw [takeConfigure, configParams_latch, configParams_good h]

/-- Settles O29: one path through `takeConfigure` for a parameter out of range, and one for none. -/
theorem configureWritesAllOrNone : Obligations.ConfigureWritesAllOrNone := by
  intro s d d₁ ch w h p bad c
  refine ⟨fun hbad => ?_, fun hgood => ?_⟩
  · exact exec_of_control h rfl fun v => takeConfigure_bad (ch := ch) (d := d₁.withChannels v) hbad
  · exact exec_of_control (d' := { d₁ with config := c }) h rfl fun v =>
      takeConfigure_good (ch := ch) (d := d₁.withChannels v) hgood

end

end Sys2Proof.Machine
end

section
/-!
PROOFS. A write transaction on a link: the bytes that it applies, the row that it decodes to, and what it does before its trigger is
judged (R160 to R166, R181, R182).
-/
namespace Sys2Proof.Machine

/-! ### A byte sent after the others (R181) -/

section
variable {w : Writes} {a x : RegAddr} {b : Byte}

/-- The byte sent last to an address is the one that stands there (R181). -/
theorem lastWrite_append (w : Writes) (a x : RegAddr) (b : Byte) :
    lastWrite (w ++ [(a, b)]) x = if a = x then some b else lastWrite w x := by
  induction w with
  | nil => rfl
  | cons y w ih =>
    rw [List.cons_append, lastWrite, lastWrite, ih]
    by_cases h : a = x <;> simp [h]

theorem lastWrite_append_same (w : Writes) (a : RegAddr) (b : Byte) : lastWrite (w ++ [(a, b)]) a = some b := by
  rw [lastWrite_append, if_pos rfl]

theorem lastWrite_append_ne (h : a ≠ x) (w : Writes) (b : Byte) : lastWrite (w ++ [(a, b)]) x = lastWrite w x := by
  rw [lastWrite_append, if_neg h]

/-- A byte sent once more to the address where it stands changes no address. -/
theorem lastWrite_append_repeated (h : lastWrite w a = some b) : lastWrite (w ++ [(a, b)]) = lastWrite w := by
  funext x
  rw [lastWrite_append]
  split
  · next hx => rw [← hx, h]
  · rfl

/-- The triggers stand above every other register (Table 64). -/
theorem trigger_ge (c : Cmd) : 0x64 ≤ c.trigger.toNat := by cases c <;> decide

theorem triggersIn_append (ha : a.toNat < 0x64) (w : Writes) (b : Byte) : triggersIn (w ++ [(a, b)]) = triggersIn w := by
  have hne (c : Cmd) : a ≠ c.trigger := fun h => absurd (trigger_ge c) (by rw [← h]; omega)
  simp only [triggersIn, lastWrite_append_ne (hne _)]

/-- A byte above 30h reaches no parameter register (Table 63). -/
theorem writeByte_beyond (ha : 0x30 < a.toNat) (p : Params) (b : Byte) : p.writeByte a b = p := by
  unfold Params.writeByte
  simp only [show ∀ n, n ≤ 0x30 → ¬ a.toNat < n ∧ a.toNat ≠ n from fun n _ => by omega, Nat.reduceLeDiff]
  simp

theorem writeAll_append (ha : 0x30 < a.toNat) (p : Params) (w : Writes) (b : Byte) : p.writeAll (w ++ [(a, b)]) = p.writeAll w := by
  rw [Params.writeAll, List.foldl_append]
  exact writeByte_beyond ha _ _

end

/-! ### CONTROL (R164, R165, R182) -/

section
variable {w : Writes}

theorem writesAbort_eq (w : Writes) : writesAbort w = ((lastWrite w controlAddr).getD 0).getLsbD 1 := by
  unfold writesAbort
  cases lastWrite w controlAddr <;> rfl

theorem writesAck_eq (w : Writes) : writesAck w = ((lastWrite w controlAddr).getD 0).getLsbD 0 := by
  unfold writesAck
  cases lastWrite w controlAddr <;> rfl

/-- A transaction that sets a bit of CONTROL sends some byte there. -/
theorem lastWrite_control_of_bit {n : Nat} (h : ((lastWrite w controlAddr).getD 0).getLsbD n = true) :
    lastWrite w controlAddr = some ((lastWrite w controlAddr).getD 0) := by
  cases hw : lastWrite w controlAddr with
  | none => simp [hw] at h
  | some b => rfl

theorem writesAbort_withControl (w : Writes) (v : Byte) : writesAbort (withControl w v) = (writesAbort w || v.getLsbD 1) := by
  rw [writesAbort_eq, writesAbort_eq, withControl, lastWrite_append_same, Option.getD_some, BitVec.getLsbD_or]

theorem writesAck_withControl (w : Writes) (v : Byte) : writesAck (withControl w v) = (writesAck w || v.getLsbD 0) := by
  rw [writesAck_eq, writesAck_eq, withControl, lastWrite_append_same, Option.getD_some, BitVec.getLsbD_or]

theorem triggersIn_withControl (w : Writes) (v : Byte) : triggersIn (withControl w v) = triggersIn w :=
  triggersIn_append (by decide) ..

/-- CONTROL is no register that holds what is written to it (R182). -/
theorem writeRegisters_withControl (c : Channel) (w : Writes) (v : Byte) : c.writeRegisters (withControl w v) = c.writeRegisters w := by
  simp only [Channel.writeRegisters, withControl, writeAll_append (a := controlAddr) (by decide),
    lastWrite_append_ne (a := controlAddr) (x := attnenAddr) (by decide),
    lastWrite_append_ne (a := controlAddr) (x := viewpageAddr) (by decide)]

end

/-! ### A transaction by the triggers that it writes (R160, R161) -/

section
variable {s : State} {d d₁ : Device} {ch : Agent} {c : Cmd} {w : Writes}

/-- A channel in RESET ignores a transaction (R161). -/
theorem linkWrite_reset (h : (d.chan ch).state = .reset) (w : Writes) : linkWrite ch w d = d := if_pos h

theorem commandWrite_reset (h : (d.chan ch).state = .reset) (c : Cmd) (take : Take) (w : Writes) : commandWrite c take ch w d = d :=
  if_pos h

/-- With no trigger, a transaction ends with its registers, ABORT and ACK. -/
theorem linkWrite_untriggered (hl : (d.chan ch).state ≠ .reset) (ht : noTrigger w = true) :
    linkWrite ch w d = d.applyWrites ch w := by
  rw [linkWrite, if_neg hl, List.isEmpty_iff.mp ht]

/-- Two or more triggers start no command (R160). -/
theorem linkWrite_manyTriggers (hl : (d.chan ch).state ≠ .reset) (ht : 2 ≤ (triggersIn w).length) :
    linkWrite ch w d = (d.applyWrites ch w).manyTriggers ch := by
  rw [linkWrite, if_neg hl]
  split
  · next h => simp [h] at ht
  · next h => simp [h] at ht
  · rfl

/-- A transaction with one trigger is that command's (R160). -/
theorem linkWrite_oneTrigger (ht : triggersIn w = [c]) : linkWrite ch w = commandWrite c (takeOf c) ch w := by
  funext d
  simp only [linkWrite, commandWrite, ht, List.all_cons, List.all_nil, decide_true, Bool.and_true, if_true]

/-- A trigger on a busy channel is dropped, with OVERRUN set (R161). -/
theorem commandWrite_busy (hl : (d.chan ch).state ≠ .reset) (ho : (triggersIn w).all (· = c) = true)
    (hb : ((d.applyWrites ch w).chan ch).state ≠ .ready) (take : Take) :
    commandWrite c take ch w d = (d.applyWrites ch w).setOverrun ch := by
  rw [commandWrite, if_neg hl, if_pos ho, Device.trigger, if_neg hb]

/-- A byte above 30h sent once more changes nothing that a transaction does. -/
theorem linkWrite_repeated {a : RegAddr} {b : Byte} (ha : 0x30 < a.toNat) (h : lastWrite w a = some b) (ch : Agent) :
    linkWrite ch (w ++ [(a, b)]) = linkWrite ch w := by
  have hw := lastWrite_append_repeated h
  have ht : triggersIn (w ++ [(a, b)]) = triggersIn w := by simp only [triggersIn, hw]
  have hp (d : Device) : d.applyWrites ch (w ++ [(a, b)]) = d.applyWrites ch w := by
    simp only [Device.applyWrites, Channel.writeRegisters, writesAbort_eq, writesAck_eq, hw, writeAll_append ha]
  funext d
  unfold linkWrite
  simp only [ht, hp]

/-- A bit set in a byte that has it already. -/
theorem or_twoPow_of_bit {b : Byte} {n : Nat} (h : b.getLsbD n = true) : b ||| BitVec.twoPow 8 n = b := by
  refine BitVec.eq_of_getLsbD_eq fun i hi => ?_
  rw [BitVec.getLsbD_or, BitVec.getLsbD_twoPow]
  by_cases hn : n = i
  · rw [← hn, h, Bool.true_or]
  · simp [hn]

/-- A bit of CONTROL sent once more changes nothing that a transaction does. -/
theorem linkWrite_withControl {n : Nat} (h : ((lastWrite w controlAddr).getD 0).getLsbD n = true) (ch : Agent) :
    linkWrite ch (withControl w (BitVec.twoPow 8 n)) = linkWrite ch w := by
  rw [withControl, or_twoPow_of_bit h]
  exact linkWrite_repeated (by decide) (lastWrite_control_of_bit h) ch

end

/-! ### What a transaction decodes to (R160, R181, R182) -/

/-- The row of a command is well formed where its transaction writes no other trigger. -/
theorem wf_commandRow (c : Cmd) (ch : Agent) (w : Writes) : (commandRow c ch w).wf = (triggersIn w).all (· = c) := by
  cases c <;> rfl

/-- Settles O3: the branches of `decodeWrite`. A row that names its own byte sends it once more, which changes nothing. -/
theorem decodedRowActsAsItsTransaction : Obligations.DecodedRowActsAsItsTransaction := by
  intro ch start data
  unfold decodeWrite
  generalize hw : spread start data = w
  dsimp only
  split
  · next c ht =>
    refine ⟨by simp [wf_commandRow, ht], fun s => ?_⟩
    rw [exec_commandRow, linkWrite_oneTrigger ht]
  · next ht => exact ⟨decide_eq_true (by simp [ht]), fun s => rfl⟩
  · next ht =>
    have hno : noTrigger w = true := List.isEmpty_iff.mpr ht
    split
    · next hab => exact ⟨hno, fun s => congrArg s.onLive (linkWrite_withControl (n := 1) (writesAbort_eq w ▸ hab) ch)⟩
    next hab =>
    split
    · next hack =>
      exact ⟨by simp [Instr.wf, hno, hab], fun s => congrArg s.onLive (linkWrite_withControl (n := 0) (writesAck_eq w ▸ hack) ch)⟩
    next hack =>
    have hcontrol : noControl w = true := by simp [noControl, hab, hack]
    split
    · next v hv => exact ⟨by simp [Instr.wf, hno, hcontrol], fun s => congrArg s.onLive (linkWrite_repeated (by decide) hv ch)⟩
    next hattn =>
    split
    · next v hv =>
      exact ⟨by simp [Instr.wf, hno, hcontrol, hattn], fun s => congrArg s.onLive (linkWrite_repeated (by decide) hv ch)⟩
    · next hview =>
      subst hw
      exact ⟨by simp [Instr.wf, hno, hcontrol, hattn, hview], fun s => rfl⟩

end Sys2Proof.Machine
end

section
/-!
PROOFS. The registers of a transaction, ACK and ABORT (R159, R164 to R166, R182), the triggers that start nothing (R160, R161), and
the links that are not listened to (R161, R175).
-/
namespace Sys2Proof.Machine

section
variable {s : State} {d d₁ : Device} {ch a : Agent} {c : Cmd} {w : Writes}

/-! ### Registers, ABORT and ACK (R159, R164, R165, R182) -/

/-- The channel after the registers of a transaction, and an ACK where it sends one (R164, R182). -/
def Channel.acked (c : Channel) (w : Writes) : Channel :=
  { c.writeRegisters w with complete := if c.state = .ready ∧ writesAck w = true then false else c.complete }

/-- An ACK where `k` says so, on a channel just written: it clears COMPLETE in READY and has no effect elsewhere (R164). -/
theorem ack_setChan (d : Device) (ch : Agent) (x : Channel) (k : Bool) :
    (if k then (d.setChan ch x).ack ch else d.setChan ch x) =
      d.setChan ch { x with complete := if x.state = .ready ∧ k = true then false else x.complete } := by
  unfold Device.ack
  rw [chan_setChan_self]
  cases k with
  | false => simp
  | true =>
    by_cases hr : x.state = .ready
    · simp [hr, Device.setChan]
    · simp [hr]

/-- ABORT is ignored in every state but IN_FLIGHT (R165). -/
theorem abort_ignored (h : (d.chan ch).state ≠ .inFlight) : d.abort ch = d := if_neg h

/-- What a transaction does before its trigger, where it ends no request in flight. -/
theorem applyWrites_unaborted (h : writesAbort w = false ∨ (d.chan ch).state ≠ .inFlight) :
    d.applyWrites ch w = d.setChan ch ((d.chan ch).acked w) := by
  have habort : (if writesAbort w then (d.setChan ch ((d.chan ch).writeRegisters w)).abort ch
      else d.setChan ch ((d.chan ch).writeRegisters w)) = d.setChan ch ((d.chan ch).writeRegisters w) := by
    split
    · next hab =>
      refine abort_ignored ?_
      rw [chan_setChan_self]
      exact h.resolve_left (by simp [hab])
    · rfl
  rw [Device.applyWrites, habort]
  exact ack_setChan ..

theorem acked_withoutAck (h : writesAck w = false) (c : Channel) : c.acked w = c.writeRegisters w := by
  simp [Channel.acked, h, Channel.writeRegisters]

/-- What a row does that is a transaction without a trigger. -/
theorem onLive_linkWrite_untriggered (hl : Live s d) (hr : (d.chan ch).state ≠ .reset) (ht : noTrigger w = true) :
    s.onLive (linkWrite ch w) = .next (s.withDev (d.applyWrites ch w)) := by
  rw [onLive_live hl, linkWrite_untriggered hr ht]

/-- A row that writes registers alone (R159, R182). -/
theorem onLive_linkWrite_registers (hl : Live s d) (hr : (d.chan ch).state ≠ .reset) (ht : noTrigger w = true)
    (hc : noControl w = true) :
    s.onLive (linkWrite ch w) = .next (s.withDev (d.setChan ch ((d.chan ch).writeRegisters w))) := by
  obtain ⟨hab, hack⟩ : writesAbort w = false ∧ writesAck w = false := by simpa [noControl] using hc
  rw [onLive_linkWrite_untriggered hl hr ht, applyWrites_unaborted (.inl hab), acked_withoutAck hack]

/-- Settles O7: the row's own bit of CONTROL is an ACK and no ABORT. -/
theorem ackClearsComplete : Obligations.AckClearsComplete := by
  intro s d ch w hl hr hwf
  obtain ⟨ht, hab⟩ : noTrigger w = true ∧ writesAbort w = false := by simpa [Instr.wf] using hwf
  have ht' : noTrigger (withControl w 0x01) = true := by rw [noTrigger, triggersIn_withControl]; exact ht
  have hab' : writesAbort (withControl w 0x01) = false := by rw [writesAbort_withControl, hab]; rfl
  have hack : writesAck (withControl w 0x01) = true := by rw [writesAck_withControl]; exact Bool.or_true _
  refine (onLive_linkWrite_untriggered hl hr ht').trans ?_
  rw [applyWrites_unaborted (.inl hab'), Channel.acked, writeRegisters_withControl]
  simp only [hack, and_true]

/-- The entry whose target gives its wait up goes on switching: it is neither granted, drained nor evaluated (R70, R104, R165). -/
theorem handOn_switching {e : EntryIx} {r : Record} (hr : d.entry e = some r) (hs : r.isSwitching = true) (hh : r.holders = []) :
    d.handOn e = d := by
  have hdrain : d.checkDrain e = d := by
    unfold Device.checkDrain
    rw [hr]
    cases hlife : r.lifecycle <;> simp [hlife, hs]
  rw [Device.handOn, grantDecision_undecidable hr (not_decidable_of_switching hs), hdrain]
  refine evaluate_vacant fun r' hr' => ?_
  cases hr.symm.trans hr'
  exact hh

/-- ABORT of a REQUEST in flight: it completes ABORTED, and its cell leaves the queue of the switching entry (R165). -/
theorem abort_inFlight {l : Latched} {e : EntryIx} {r : Record} {x : WaitCell} (hf : (d.chan ch).state = .inFlight)
    (hl : (d.chan ch).latched = some l) (he : d.lookup l.params.handle = .ok (e, r)) (hs : r.isSwitching = true)
    (hh : r.holders = []) (hc : r.cell ch = some x) :
    d.abort ch = (d.putRecord e (r.withoutCell ch)).setChan ch
      ((d.chan ch).finish (some .request) { result := .aborted, priority := some x.priority }) := by
  have hentry : (d.finish ch .request { result := .aborted, priority := some x.priority }).entry e = some r := lookup_entry he
  unfold Device.abort
  simp only [hf, hl, he, hc, if_true, Option.map_some]
  rw [removeCell_eq hentry, handOn_switching (r := r.withoutCell ch) (by rw [entry_putRecord, if_pos rfl]) hs hh]
  rfl

/-- Settles O8: the row's own bit of CONTROL is an ABORT, and the ACK is the one that its bytes send. -/
theorem abortEndsTheInFlightRequest : Obligations.AbortEndsTheInFlightRequest := by
  intro s d ch w hl hr ht
  have ht' : noTrigger (withControl w 0x02) = true := by rw [noTrigger, triggersIn_withControl]; exact ht
  have hab : writesAbort (withControl w 0x02) = true := by rw [writesAbort_withControl]; exact Bool.or_true _
  have hack : writesAck (withControl w 0x02) = writesAck w := by rw [writesAck_withControl]; exact Bool.or_false _
  have hexec : exec (.abort ch w) s = .next (s.withDev (d.applyWrites ch (withControl w 0x02))) :=
    onLive_linkWrite_untriggered hl hr ht'
  rw [hexec]
  refine ⟨fun l e r x hf hlat he hs hh hc => ?_, fun hf => ?_⟩
  · have habort := abort_inFlight (d := d.setChan ch ((d.chan ch).writeRegisters w)) (ch := ch) (l := l) (e := e) (r := r) (x := x)
      (by rw [chan_setChan_self]; exact hf) (by rw [chan_setChan_self]; exact hlat) he hs hh hc
    rw [Device.applyWrites, writeRegisters_withControl, if_pos hab, habort, hack, ack_setChan, chan_setChan_self]
    congr 2
    simp only [Device.setChan, Device.putRecord, tset_tset, Channel.finish, true_and]
    cases writesAck w <;> rfl
  · rw [applyWrites_unaborted (.inr hf), Channel.acked, writeRegisters_withControl, hack]

/-! ### ATTNEN, VIEWPAGE and ATTN# (R166, R184) -/

theorem noTrigger_append {x : RegAddr} (hx : x.toNat < 0x64) (w : Writes) (b : Byte) : noTrigger (w ++ [(x, b)]) = noTrigger w := by
  rw [noTrigger, triggersIn_append hx, noTrigger]

theorem noControl_append {x : RegAddr} (hx : x ≠ controlAddr) (w : Writes) (b : Byte) : noControl (w ++ [(x, b)]) = noControl w := by
  simp only [noControl, writesAbort_eq, writesAck_eq, lastWrite_append_ne hx]

theorem writeRegisters_attnen (x : Channel) (w : Writes) (v : Byte) :
    x.writeRegisters (w ++ [(attnenAddr, v)]) = { x.writeRegisters w with attnen := v } := by
  simp only [Channel.writeRegisters, writeAll_append (a := attnenAddr) (by decide), lastWrite_append_same,
    lastWrite_append_ne (a := attnenAddr) (x := viewpageAddr) (by decide), Option.getD_some]

theorem writeRegisters_viewpage (x : Channel) (w : Writes) (v : Byte) :
    x.writeRegisters (w ++ [(viewpageAddr, v)]) = { x.writeRegisters w with viewPage := v } := by
  simp only [Channel.writeRegisters, writeAll_append (a := viewpageAddr) (by decide), lastWrite_append_same,
    lastWrite_append_ne (a := viewpageAddr) (x := attnenAddr) (by decide), Option.getD_some]

theorem pending_iff {x : NoticeCell} : x.pending = true ↔ x.kinds ≠ {} := by
  simp [NoticeCell.pending, KindSet.isEmpty]

theorem noticePending_iff : d.noticePending a = true ↔ ∃ e, (d.notice e a).kinds ≠ {} := by
  simp [Device.noticePending, pending_iff, mem_allEntries]

/-- Settles O6: the row's own byte is the last one sent to its register, and it is no other register's. -/
theorem attentionAndPageTakeTheValue : Obligations.AttentionAndPageTakeTheValue := by
  refine ⟨fun s d ch v w hl hr => ⟨fun hwf => ?_, fun hwf => ?_⟩, fun s d a hd => ?_⟩
  · obtain ⟨ht, hc⟩ : noTrigger w = true ∧ noControl w = true := by simpa [Instr.wf] using hwf
    refine (onLive_linkWrite_registers hl hr ((noTrigger_append (by decide) ..).trans ht)
      ((noControl_append (by decide) ..).trans hc)).trans ?_
    rw [writeRegisters_attnen]
    rfl
  · obtain ⟨⟨ht, hc⟩, hattn⟩ : (noTrigger w = true ∧ noControl w = true) ∧ lastWrite w attnenAddr = none := by
      simpa [Instr.wf] using hwf
    refine (onLive_linkWrite_registers hl hr ((noTrigger_append (by decide) ..).trans ht)
      ((noControl_append (by decide) ..).trans hc)).trans ?_
    rw [writeRegisters_viewpage, Channel.writeRegisters, hattn]
    rfl
  · have hpin : s.attnPin a = some false ↔ d.attention a = true := by simp [State.attnPin, hd]
    rw [hpin, ← noticePending_iff, Device.attention, Bool.or_eq_true, Bool.and_eq_true, Bool.and_eq_true]

/-! ### Triggers that start nothing (R160, R161) -/

/-- Settles O9: the three paths on which a trigger is not taken. -/
theorem triggersThatStartNothing : Obligations.TriggersThatStartNothing := by
  intro s d d₁ ch w hl hr happ
  subst happ
  have hmany (hwf : (Instr.multipleTriggers ch w).wf = true) :
      exec (.multipleTriggers ch w) s = .next (s.withDev ((d.applyWrites ch w).manyTriggers ch)) :=
    (onLive_live hl _).trans (by rw [linkWrite_manyTriggers hr (of_decide_eq_true hwf)])
  refine ⟨fun hwf hready => ?_, fun hbusy => ⟨fun hwf => ?_, fun c ho => ?_⟩⟩
  · rw [hmany hwf, Device.manyTriggers, if_pos hready, Channel.finish, ← hready]
  · rw [hmany hwf, Device.manyTriggers, if_neg hbusy]
    rfl
  · rw [exec_commandRow, onLive_live hl, commandWrite_busy hr ho hbusy]
    rfl

/-! ### Links not listened to (R161, R175, R181) -/

/-- The part or the channel does not listen to the link of `ch`. -/
def State.Deaf (s : State) (ch : Agent) : Prop :=
  (∃ d, s.dev = some d ∧ (d.chan ch).state = .reset) ∨ s.held = true ∨ s.dev = none

/-- What a channel in RESET ignores is ignored on every link that is not listened to. -/
theorem onLive_deaf (h : s.Deaf ch) {f : Device → Device} (hf : ∀ d, (d.chan ch).state = .reset → f d = d) :
    s.onLive f = .next s := by
  rcases h with ⟨d, hd, hr⟩ | hheld | hd
  · unfold State.onLive
    rw [hd]
    dsimp only
    rw [hf d hr, ← hd, ite_self]
  · exact onLive_held hheld f
  · exact onLive_absent hd f

theorem linkRead_deaf (h : s.Deaf ch) (start : RegAddr) (n : Nat) : s.linkRead ch start n = none := by
  unfold State.linkRead
  rcases h with ⟨d, hd, hr⟩ | hheld | hd
  · simp [hd, hr]
  · cases s.dev <;> simp [hheld]
  · rw [hd]

/-- Settles O10: every row of the link is a transaction, and a transaction in RESET is ignored. -/
theorem linkIgnoredInReset : Obligations.LinkIgnoredInReset := by
  intro s ch h
  have hlink (w : Writes) : s.onLive (linkWrite ch w) = .next s := onLive_deaf h fun d hr => linkWrite_reset hr w
  refine ⟨fun c w => ?_, fun w => ⟨hlink w, hlink _, hlink _⟩, fun v w => ⟨hlink _, hlink _⟩, fun start data => hlink _,
    fun start n => linkRead_deaf h start n⟩
  rw [exec_commandRow]
  exact onLive_deaf h fun d hr => commandWrite_reset hr c _ w

end

end Sys2Proof.Machine
end

section
/-!
PROOFS. The attach check (R162), and TAKE NOTICE (R169).
-/
namespace Sys2Proof.Machine

section
variable {s : State} {d d₁ : Device} {ch a : Agent} {c : Cmd} {w : Writes} {e : EntryIx}

/-! ### The attach check (R162) -/

/-- A command that the attach check refuses changes nothing but the answer (R162). -/
theorem exec_attachCheck_refused (h : Starts s d ch c w d₁) {code : ResultCode}
    (hc : attachCheck c (d₁.agent ch).state = some code) :
    exec (commandRow c ch w) s = .next (s.withDev (d₁.answered ch c { result := code })) := by
  have hcheck : attachCheck c ((d₁.started ch c).agent ch).state = some code := hc
  have hjudge : (d₁.started ch c).judge ch c (takeOf c) = done (d₁.started ch c) code := by rw [Device.judge, hcheck]
  rw [exec_commandRow, onLive_live h.live, commandWrite_starts h, hjudge, writeBack_done]

/-- Three commands are let through from an agent that is not attached, and no other (R162). -/
theorem attachCheck_unattached {x : Roster} (hx : x = .offline ∨ x = .rejoining) (ha : c ≠ .attach) (hr : c ≠ .rejoin)
    (ht : c ≠ .takeNotice) : attachCheck c x = some .notAttached := by
  rcases hx with rfl | rfl <;> cases c <;> simp_all [attachCheck]

/-- Settles O11: what the check says in each roster state that it does not let pass. -/
theorem attachCheckRefuses : Obligations.AttachCheckRefuses := by
  intro s d d₁ ch c w h
  refine ⟨fun hf => exec_attachCheck_refused h (by rw [hf]; rfl), fun hst ha hr ht => ?_⟩
  exact exec_attachCheck_refused h (attachCheck_unattached hst ha hr ht)

/-! ### TAKE NOTICE (R167, R169) -/

theorem firstNotice_eq_none (h : ∀ e, (d.notice e a).kinds = {}) : d.firstNotice a = none :=
  List.find?_eq_none.mpr fun e _ hp => pending_iff.mp hp (h e)

/-- The lowest of the agent's cells with a pending kind (R169). -/
theorem firstNotice_eq_some (h : (d.notice e a).kinds ≠ {}) (hl : ∀ x < e, (d.notice x a).kinds = {}) :
    d.firstNotice a = some e := by
  rw [Device.firstNotice, List.find?_eq_some_iff_getElem]
  refine ⟨pending_iff.mpr h, e.val, by simp [allEntries], by simp [allEntries], fun j hj => ?_⟩
  rw [Bool.not_eq_true', ← Bool.not_eq_true, pending_iff, not_not]
  exact hl _ (by simpa [allEntries, Fin.lt_def] using hj)

/-- The other pending cells are those that stay when one is cleared (R169). -/
theorem pendingCells_cleared (d : Device) (e : EntryIx) (a : Agent) :
    (d.setNotice e a {}).pendingCells a = (allEntries.filter fun x => x ≠ e ∧ (d.notice x a).kinds ≠ {}).length := by
  rw [Device.pendingCells, List.countP_eq_length_filter]
  congr 1
  refine List.filter_congr fun x _ => ?_
  rw [Bool.eq_iff_iff, pending_iff, decide_eq_true_iff, Device.notice_setNotice]
  by_cases hx : e = x
  · simp [hx]
  · simp [hx, Ne.symm hx]

/-- TAKE NOTICE is let through for every agent that is not FENCED (R162). -/
theorem attachCheck_takeNotice {x : Roster} (h : x ≠ .fenced) : attachCheck .takeNotice x = none := by
  cases x with
  | fenced => exact absurd rfl h
  | _ => rfl

/-- Settles O45: what `takeTakeNotice` answers, on the device with the cell cleared. -/
theorem takeNoticeCollectsTheLowestCell : Obligations.TakeNoticeCollectsTheLowestCell := by
  intro s d d₁ ch w h hst
  have hcheck := attachCheck_takeNotice hst
  refine ⟨fun hnone => ?_, fun e g rel hk hlow hg hrel => ?_⟩
  · refine exec_of_attachCheck (d' := d₁) h hcheck rfl rfl fun v => ?_
    have hfirst : (d₁.withChannels v).firstNotice ch = none := firstNotice_eq_none hnone
    simp only [takeOf, takeTakeNotice, hfirst]
  · refine exec_of_attachCheck (d' := d₁.setNotice e ch {}) h hcheck rfl rfl fun v => ?_
    have hfirst : (d₁.withChannels v).firstNotice ch = some e := firstNotice_eq_some hk hlow
    have hcell : (d₁.withChannels v).notice e ch = d₁.notice e ch := rfl
    have hother : ((d₁.withChannels v).setNotice e ch {}).pendingCells ch = (d₁.setNotice e ch {}).pendingCells ch := rfl
    have hrelation : (d₁.withChannels v).relation e ch g = rel := hrel ▸ rfl
    simp only [takeOf, takeTakeNotice, hfirst, hcell, hg, Option.getD_some, hrelation, hother, pendingCells_cleared, handleOf_eq]
    rfl

end

end Sys2Proof.Machine
end

section
/-!
PROOFS. The register block as a read shows it (R181 to R184, Tables 63 to 66), and the parameter registers as a write leaves them
(R159, R181).
-/
namespace Sys2Proof.Machine

/-! ### A byte of a register written (R181) -/

section
variable {n k j : Nat} {b : Byte}

theorem byteOf_withByte (hk : 8 * k + 8 ≤ n) (v : BitVec n) (b : Byte) (hj : 8 * j + 8 ≤ n) :
    byteOf (withByte v k b) j = if k = j then b else byteOf v j := by
  refine BitVec.eq_of_getLsbD_eq fun i hi => ?_
  have hmask (m : Nat) : (0xFF : Byte).getLsbD m = decide (m < 8) := BitVec.getLsbD_allOnes
  have hbyte : (i < 8) = True := eq_true hi
  have hreg : (8 * j + i < n) = True := eq_true (by omega)
  simp only [byteOf, withByte, BitVec.getLsbD_extractLsb', BitVec.getLsbD_or, BitVec.getLsbD_and, BitVec.getLsbD_not,
    BitVec.getLsbD_shiftLeft, BitVec.getLsbD_setWidth, hmask, hbyte, hreg, decide_true, Bool.true_and]
  rcases Nat.lt_trichotomy k j with h | rfl | h
  · have hpast : 8 ≤ 8 * j + i - 8 * k := by omega
    rw [if_neg (by omega), BitVec.getLsbD_of_ge b _ hpast, BitVec.getLsbD_extractLsb']
    simp [hbyte, show ¬ 8 * j + i - 8 * k < 8 by omega]
  · simp [hbyte, show i < n by omega]
  · rw [if_neg (by omega), BitVec.getLsbD_extractLsb']
    simp [hbyte, show 8 * j + i < 8 * k by omega]

theorem bytesOf_withByte (hk : 8 * k + 8 ≤ n) (v : BitVec n) (b : Byte) : bytesOf (withByte v k b) = (bytesOf v).set k b := by
  refine List.ext_getElem (by simp [bytesOf]) fun j hj _ => ?_
  have hj' : j < n / 8 := by simpa [bytesOf] using hj
  simp [bytesOf, List.getElem_set, byteOf_withByte hk v b (show 8 * j + 8 ≤ n by omega)]

end

/-! ### The parameter registers as bytes (R159, Table 63) -/

section
variable {p p' q : Params} {a n : Nat} {b v : Byte}

/-- The parameter registers in the order of their addresses, each as its bytes (Table 63). -/
def Params.fields (p : Params) : List (List Byte) :=
  [bytesOf p.handle, bytesOf p.key, bytesOf p.ticket, bytesOf p.term, bytesOf p.waitlim, [p.mode], [p.prio], [p.agent], [p.group],
    [p.options], [p.sharing], [p.policy], [p.home], bytesOf p.grace, bytesOf p.defterm, bytesOf p.maxterm, [p.parkpol],
    [p.swtimeout], [p.holdq], [p.waitq], [p.cap], [p.plainpol], bytesOf p.tickdiv, bytesOf p.reclaim, bytesOf p.plaindef,
    bytesOf p.plainmax, [p.defswto]]

theorem bytes_eq_fields (p : Params) : p.bytes = p.fields.flatten := by
  simp only [Params.bytes, Params.fields, List.flatten_cons, List.flatten_nil, List.append_assoc, List.cons_append, List.nil_append,
    List.append_nil]

/-- A byte of one field written is that byte written in the whole. -/
theorem flatten_set_field {l : List (List Byte)} {i k : Nat} {f : List Byte} (hi : l[i]? = some f) (hk : k < f.length) (b : Byte) :
    (l.set i (f.set k b)).flatten = l.flatten.set ((l.take i).flatten.length + k) b := by
  induction l generalizing i with
  | nil => simp at hi
  | cons x l ih =>
    cases i with
    | zero =>
      cases hi
      simp [List.set_append_left _ _ hk]
    | succ i =>
      rw [List.set_cons_succ, List.flatten_cons, ih hi, List.flatten_cons, List.take_succ_cons, List.flatten_cons, List.length_append,
        List.set_append_right _ _ (by omega)]
      congr 2
      omega

/-- `q` is `p` with the byte `b` written to the address `a` of the parameter registers. -/
def Params.Written (p : Params) (a : Nat) (b : Byte) (q : Params) : Prop := q.bytes = p.bytes.set a b

/-- A multi-byte register, field `i`, which stands from address `base` and ends below `top`. -/
theorem written_word (i base : Nat) (v : BitVec n) {top : Nat}
    (hf : p'.fields = p.fields.set i (bytesOf (withByte v (a - base) b))) (hi : p.fields[i]? = some (bytesOf v))
    (hb : (p.fields.take i).flatten.length = base) (hn : n = 8 * (top - base)) (ha : base ≤ a) (hq : ¬ a < top → p.Written a b q) :
    p.Written a b (if a < top then p' else q) := by
  split
  · rw [Params.Written, bytes_eq_fields, hf, bytesOf_withByte (by omega), flatten_set_field hi (by rw [length_bytesOf]; omega), hb,
      bytes_eq_fields, Nat.add_sub_cancel' ha]
  · next h => exact hq h

/-- A one-byte register, field `i`, which stands at address `x`. -/
theorem written_byte (i : Nat) (v : Byte) {x : Nat} (hf : p'.fields = p.fields.set i [b]) (hi : p.fields[i]? = some [v])
    (hb : (p.fields.take i).flatten.length = x) (hq : a ≠ x → p.Written a b q) :
    p.Written a b (if a = x then p' else q) := by
  split
  · next h =>
    have hset := flatten_set_field hi (k := 0) (Nat.zero_lt_succ _) b
    rw [hb, Nat.add_zero, List.set_cons_zero] at hset
    rw [Params.Written, bytes_eq_fields, hf, hset, bytes_eq_fields, h]
  · next h => exact hq h

/-- A byte written to an address up to 30h stands there, and every other byte is as it was (Table 63). -/
theorem writeByte_written (p : Params) (a : RegAddr) (b : Byte) : p.Written a.toNat b (p.writeByte a b) := by
  unfold Params.writeByte
  dsimp only
  refine written_word 0 0x00 p.handle rfl rfl rfl rfl (by omega) fun _ => ?_
  refine written_word 1 0x02 p.key rfl rfl rfl rfl (by omega) fun _ => ?_
  refine written_word 2 0x06 p.ticket rfl rfl rfl rfl (by omega) fun _ => ?_
  refine written_word 3 0x0A p.term rfl rfl rfl rfl (by omega) fun _ => ?_
  refine written_word 4 0x0E p.waitlim rfl rfl rfl rfl (by omega) fun _ => ?_
  refine written_byte 5 p.mode rfl rfl rfl fun _ => ?_
  refine written_byte 6 p.prio rfl rfl rfl fun _ => ?_
  refine written_byte 7 p.agent rfl rfl rfl fun _ => ?_
  refine written_byte 8 p.group rfl rfl rfl fun _ => ?_
  refine written_byte 9 p.options rfl rfl rfl fun _ => ?_
  refine written_byte 10 p.sharing rfl rfl rfl fun _ => ?_
  refine written_byte 11 p.policy rfl rfl rfl fun _ => ?_
  refine written_byte 12 p.home rfl rfl rfl fun _ => ?_
  refine written_word 13 0x18 p.grace rfl rfl rfl rfl (by omega) fun _ => ?_
  refine written_word 14 0x1A p.defterm rfl rfl rfl rfl (by omega) fun _ => ?_
  refine written_word 15 0x1E p.maxterm rfl rfl rfl rfl (by omega) fun _ => ?_
  refine written_byte 16 p.parkpol rfl rfl rfl fun _ => ?_
  refine written_byte 17 p.swtimeout rfl rfl rfl fun _ => ?_
  refine written_byte 18 p.holdq rfl rfl rfl fun _ => ?_
  refine written_byte 19 p.waitq rfl rfl rfl fun _ => ?_
  refine written_byte 20 p.cap rfl rfl rfl fun _ => ?_
  refine written_byte 21 p.plainpol rfl rfl rfl fun _ => ?_
  refine written_word 22 0x28 p.tickdiv rfl rfl rfl rfl (by omega) fun _ => ?_
  refine written_word 23 0x2A p.reclaim rfl rfl rfl rfl (by omega) fun _ => ?_
  refine written_word 24 0x2C p.plaindef rfl rfl rfl rfl (by omega) fun _ => ?_
  refine written_word 25 0x2E p.plainmax rfl rfl rfl rfl (by omega) fun _ => ?_
  refine written_byte 26 p.defswto rfl rfl rfl fun _ => ?_
  exact (List.set_eq_of_length_le (by rw [length_paramsBytes]; omega)).symm

/-- A transaction leaves in each byte of the parameter registers the last byte written to it, or what it held (R181). -/
theorem bytes_writeAll (p : Params) (w : Writes) {a : RegAddr} (ha : a.toNat ≤ 0x30) :
    (p.writeAll w).bytes.getD a.toNat 0 = (lastWrite w a).getD (p.bytes.getD a.toNat 0) := by
  induction w generalizing p with
  | nil => simp only [Params.writeAll, List.foldl_nil, lastWrite, Option.getD_none]
  | cons y w ih =>
    have hstep : (p.writeByte y.1 y.2).bytes.getD a.toNat 0 = if y.1 = a then y.2 else p.bytes.getD a.toNat 0 := by
      rw [writeByte_written]
      simp only [List.getD_eq_getElem?_getD, List.getElem?_set, length_paramsBytes, ← BitVec.toNat_inj]
      by_cases hy : y.1.toNat = a.toNat <;> simp [hy, show a.toNat < 49 by omega]
    rw [show p.writeAll (y :: w) = (p.writeByte y.1 y.2).writeAll w from rfl, ih, hstep, lastWrite]
    cases lastWrite w a with
    | some b => simp only [Option.getD_some]
    | none => by_cases hy : y.1 = a <;> simp [hy]

end

/-! ### The register block, region by region (Table 63) -/

section
variable {s : State} {d : Device} {ch : Agent} {a : RegAddr} {k n : Nat}

theorem length_windowBytes (x : Window) (page : Byte) : (x.bytes page).length = 16 := by
  cases x <;> exact length_pad16 _

/-- An address in a region of the block reads that region's byte. -/
theorem readRegister_region {pre seg post : List Byte} (hb : d.registerBlock ch = pre ++ (seg ++ post)) (ha : a.toNat = pre.length + k)
    (hk : k < seg.length) : d.readRegister ch a = seg.getD k 0 := by
  rw [Device.readRegister, hb, ha, List.getD_eq_getElem?_getD, List.getElem?_append_right (by omega), Nat.add_sub_cancel_left,
    List.getElem?_append_left hk, List.getD_eq_getElem?_getD]

/-- The parameter registers and 31h to 37h (Table 63). -/
def Channel.paramRegion (c : Channel) : List Byte := c.params.bytes ++ List.replicate 7 0

/-- STATUS, CONTROL, ATTNEN and VIEWPAGE, and the addresses from 64h (Table 63). -/
def Device.controlRegion (d : Device) (ch : Agent) : List Byte :=
  [d.status ch, 0, (d.chan ch).attnen, (d.chan ch).viewPage] ++ List.replicate 28 0

theorem length_paramRegion (c : Channel) : c.paramRegion.length = 56 := by
  rw [Channel.paramRegion, List.length_append, length_paramsBytes, List.length_replicate]

theorem registerBlock_eq (d : Device) (ch : Agent) : d.registerBlock ch = (d.chan ch).paramRegion ++ ((d.chan ch).resultBytes ++
    ((d.chan ch).results.window.bytes (d.chan ch).viewPage ++ d.controlRegion ch)) := by
  simp only [Device.registerBlock, Channel.paramRegion, Device.controlRegion, List.append_assoc]

theorem readRegister_paramRegion (ha : a.toNat < 56) : d.readRegister ch a = (d.chan ch).paramRegion.getD a.toNat 0 :=
  readRegister_region (pre := []) ((registerBlock_eq d ch).trans (List.nil_append _).symm) (Nat.zero_add _).symm
    (by rw [length_paramRegion]; exact ha)

theorem readRegister_params (ha : a.toNat ≤ 0x30) : d.readRegister ch a = (d.chan ch).params.bytes.getD a.toNat 0 := by
  rw [readRegister_paramRegion (by omega), Channel.paramRegion, List.getD_append _ _ _ _ (by rw [length_paramsBytes]; omega)]

theorem readRegister_reserved (h31 : 0x31 ≤ a.toNat) (h37 : a.toNat ≤ 0x37) : d.readRegister ch a = 0 := by
  rw [readRegister_paramRegion (by omega), Channel.paramRegion,
    List.getD_append_right _ _ _ _ (by rw [length_paramsBytes]; omega), List.getD_replicate _ (by rw [length_paramsBytes]; omega)]

/-- Addresses 38h to 4Fh read the result registers. -/
theorem readRegister_result (k : Nat) (ha : a.toNat = 0x38 + k) (hk : k < 24) : d.readRegister ch a = (d.chan ch).resultBytes.getD k 0 :=
  readRegister_region (registerBlock_eq d ch) (by rw [length_paramRegion, ha]) (by rw [length_resultBytes]; exact hk)

theorem readRegister_window (ha : a.toNat = 0x50 + k) (hk : k < 16) :
    d.readRegister ch a = ((d.chan ch).results.window.bytes (d.chan ch).viewPage).getD k 0 := by
  refine readRegister_region ((registerBlock_eq d ch).trans (List.append_assoc ..).symm) ?_ (by rw [length_windowBytes]; exact hk)
  rw [List.length_append, length_paramRegion, length_resultBytes, ha]

theorem readRegister_control (k : Nat) (ha : a.toNat = 0x60 + k) : d.readRegister ch a = (d.controlRegion ch).getD k 0 := by
  refine readRegister_region (post := []) (pre := (d.chan ch).paramRegion ++ (d.chan ch).resultBytes ++
    (d.chan ch).results.window.bytes (d.chan ch).viewPage) ?_ ?_ ?_
  · simp only [registerBlock_eq, List.append_assoc, List.append_nil]
  · simp only [List.length_append, length_paramRegion, length_resultBytes, length_windowBytes, ha]
  · have := a.isLt
    have hlength : (d.controlRegion ch).length = 32 := rfl
    omega

/-- What a read of `n` bytes from `start` shows (R181). -/
theorem readBytes_eq (d : Device) (ch : Agent) (start : RegAddr) (n : Nat) :
    d.readBytes ch start n = (List.range n).map fun k => d.readRegister ch (start + BitVec.ofNat 7 k) := by
  induction n generalizing start with
  | zero => rfl
  | succ n ih =>
    rw [Device.readBytes, ih, List.range_succ_eq_map, List.map_cons, List.map_map,
      show start + BitVec.ofNat 7 0 = start from BitVec.add_zero start]
    refine congrArg _ (List.map_congr_left fun k _ => ?_)
    rw [Function.comp, Nat.succ_eq_add_one, Nat.add_comm k 1, BitVec.ofNat_add, ← BitVec.add_assoc]
    rfl

theorem linkRead_live (hl : Live s d) (hr : (d.chan ch).state ≠ .reset) (start : RegAddr) (n : Nat) :
    s.linkRead ch start n = some (d.readBytes ch start n) := by
  simp [State.linkRead, hl.dev, hl.free, hr]

/-- The address of a byte after another, below 80h (R181). -/
theorem toNat_add_ofNat (h : a.toNat + k < 128) : (a + BitVec.ofNat 7 k).toNat = a.toNat + k := by
  rw [BitVec.toNat_add, BitVec.toNat_ofNat, Nat.mod_eq_of_lt (a := k) (by omega)]
  exact Nat.mod_eq_of_lt h

/-- `n` bytes from an address that each read as a list has them. -/
theorem map_readRegister {l : List Byte} (hl : l.length = n) (h : ∀ k < n, d.readRegister ch (a + BitVec.ofNat 7 k) = l.getD k 0) :
    ((List.range n).map fun k => d.readRegister ch (a + BitVec.ofNat 7 k)) = l := by
  refine List.ext_getElem (by simp [hl]) fun k hk hk' => ?_
  rw [List.getElem_map, List.getElem_range, h k (hl ▸ hk'), List.getD_eq_getElem _ _ hk']

/-- Consecutive result registers. -/
theorem map_readRegister_result (j : Nat) {l : List Byte} (ha : a.toNat = 0x38 + j) (hn : j + n ≤ 24) (hl : l.length = n)
    (h : ((d.chan ch).resultBytes.drop j).take n = l) :
    ((List.range n).map fun k => d.readRegister ch (a + BitVec.ofNat 7 k)) = l := by
  refine map_readRegister hl fun k hk => ?_
  rw [readRegister_result (j + k) (by rw [toNat_add_ofNat (by omega)]; omega) (by omega), ← h]
  simp [hk, List.getElem?_drop]

end

/-! ### The codes that a read shows (Tables 63, 65 and 66) -/

section
variable {d : Device} {ch : Agent}

theorem getLsbD_bitOf (b : Bool) {m : Nat} (hm : m < 8) (n : Nat) : (bitOf b m).getLsbD n = (b && decide (n = m)) := by
  cases b with
  | false => simp [bitOf]
  | true =>
    rw [bitOf, if_pos rfl, BitVec.natCast_eq_ofNat, BitVec.getLsbD_ofNat, Nat.one_shiftLeft, Nat.testBit_two_pow, Bool.eq_iff_iff]
    simp
    omega

/-- The result codes in the order of Table 65. -/
def ResultCode.all : List ResultCode :=
  [.none, .ok, .granted, .queued, .current, .stale, .unavailable, .aborted, .badParam, .notAttached,
    .staleHandle, .noEntry, .alreadyExists, .tableFull, .entryBusy, .retiring, .modeConflict, .alreadyHeld,
    .alreadyWaiting, .notPermitted, .notHolder, .notWaiting, .upgradeConflict, .holdQuota, .waitQuota, .queueFull,
    .steerFault, .inUse, .noNotice, .wrongState]

theorem all_getElem?_code (x : ResultCode) : ResultCode.all[x.code.toNat]? = some x := by cases x <;> rfl

/-- The number of a command's trigger is its place in Table 64, counted from 64h. -/
theorem trigger_place (c : Cmd) : ∃ n, (c.trigger.setWidth 8 : Byte).toNat = 0x64 + n ∧ Cmd.all[n]? = some c :=
  ⟨c.trigger.toNat - 0x64, by cases c <;> decide, by cases c <;> rfl⟩

/-- A list reads the same with further default values at its end. -/
theorem getD_append_replicate {α : Type} (l : List α) (m n : Nat) (x : α) : (l ++ List.replicate m x).getD n x = l.getD n x := by
  rcases Nat.lt_or_ge n l.length with h | h
  · exact List.getD_append _ _ _ _ h
  · rw [List.getD_append_right _ _ _ _ h, List.getD_eq_default _ _ h, List.getD_eq_getElem?_getD, List.getElem?_replicate]
    split <;> rfl

theorem isPresent_eq (x : Window) : x.isPresent = decide (x ≠ .absent) := by cases x <;> simp [Window.isPresent]

theorem getLsbD_present (r : Results) (n : Nat) : r.present.getLsbD n =
    [r.handle.isSome, r.priority.isSome, r.mode.isSome, r.ticket.isSome, r.term.isSome, r.agent.isSome, r.created.isSome,
      r.kinds.isSome, r.relation.isSome, r.remaining.isSome, r.count.isSome, decide (r.window ≠ .absent)].getD n false := by
  rw [Results.present, isPresent_eq, BitVec.getLsbD_ofBoolListLE]
  exact getD_append_replicate [_, _, _, _, _, _, _, _, _, _, _, _] 4 n false

theorem getLsbD_kinds (k : KindSet) (n : Nat) : k.code.getLsbD n =
    [k.granted, k.yieldAsked, k.revoked, k.expired, k.waitEnded, k.retiring, k.steerFault, k.retireDone].getD n false := by
  simp only [KindSet.code, BitVec.getLsbD_or, getLsbD_bitOf, Nat.reduceLT]
  rcases n with _ | _ | _ | _ | _ | _ | _ | _ | n <;> simp

/-- The channel state is shown by one bit for each busy state. -/
theorem code_channelState (x : ChannelState) : x.code = bitOf (decide (x = .executing)) 0 ||| bitOf (decide (x = .inFlight)) 1 := by
  cases x <;> rfl

theorem getLsbD_status (d : Device) (ch : Agent) (n : Nat) : (d.status ch).getLsbD n =
    [decide ((d.chan ch).state = .executing), decide ((d.chan ch).state = .inFlight), (d.chan ch).complete, (d.chan ch).overrun,
      decide (∃ e, (d.notice e ch).kinds ≠ {})].getD n false := by
  have hpending : d.noticePending ch = decide (∃ e, (d.notice e ch).kinds ≠ {}) := by
    rw [Bool.eq_iff_iff, noticePending_iff, decide_eq_true_iff]
  simp only [hpending, Device.status, code_channelState, BitVec.getLsbD_or, getLsbD_bitOf, Nat.reduceLT]
  rcases n with _ | _ | _ | _ | _ | n <;> simp

theorem resultBytes_completed_none {c : Channel} (h : c.completed = none) : c.resultBytes.getD 1 0 = 0 := by
  rw [Channel.resultBytes, h]
  rfl

theorem resultBytes_completed {c : Channel} {k : Cmd} (h : c.completed = some k) : c.resultBytes.getD 1 0 = k.trigger.setWidth 8 := by
  rw [Channel.resultBytes, h]
  rfl

theorem resultBytes_mode (c : Channel) : c.resultBytes.getD 7 0 =
    match c.results.mode with | some .shared => 1 | some .exclusive => 2 | none => 0 := by
  change (match c.results.mode with | some m => m.code | none => 0) = _
  rcases c.results.mode with _ | _ | _ <;> rfl

theorem resultBytes_term (c : Channel) : (c.resultBytes.drop 12).take 4 = bytesOf (match c.results.term with
    | some (.ms n) => BitVec.ofNat 32 n | some .unbounded => 0xFFFFFFFF | none => 0) := by
  change bytesOf (match c.results.term with | some t => t.code | none => 0) = _
  rcases c.results.term with _ | _ | _ <;> rfl

theorem resultBytes_created (c : Channel) : c.resultBytes.getD 17 0 = if c.results.created = some true then 1 else 0 := by
  change (match c.results.created with | some b => boolCode b | none => 0) = _
  rcases c.results.created with _ | _ | _ <;> rfl

theorem resultBytes_kinds (c : Channel) : c.resultBytes.getD 18 0 = (c.results.kinds.getD {}).code := by
  change (match c.results.kinds with | some k => k.code | none => 0) = _
  cases c.results.kinds <;> rfl

theorem resultBytes_relation (c : Channel) : c.resultBytes.getD 19 0 = match c.results.relation with
    | some .exclusiveHolder => 1 | some .sharedHolder => 2 | some .waiting => 3 | some .none | none => 0 := by
  change (match c.results.relation with | some x => x.code | none => 0) = _
  rcases c.results.relation with _ | _ | _ | _ | _ <;> rfl

/-- The window, filled up with 00h to its 16 bytes (R184). -/
theorem windowBytes_eq (x : Window) (page : Byte) : x.bytes page =
    match x with
    | .absent => List.replicate 16 0
    | .attachInfo hold wait cap create boot =>
      [BitVec.ofNat 8 hold, BitVec.ofNat 8 wait, BitVec.ofNat 8 cap.val, if create then 1 else 0, BitVec.ofNat 8 boot.val] ++
      List.replicate 11 0
    | .counts holds nonUpgrade waits =>
      [BitVec.ofNat 8 holds, BitVec.ofNat 8 nonUpgrade, BitVec.ofNat 8 waits] ++ List.replicate 13 0
    | .values c =>
      bytesOf (BitVec.ofNat 16 c.tickDiv) ++ bytesOf (BitVec.ofNat 16 c.window) ++
      bytesOf (BitVec.ofNat 16 c.plainDef) ++ bytesOf (BitVec.ofNat 16 c.plainMax) ++
      [if c.plainAsk then 1 else 0, BitVec.ofNat 8 c.swTimeout] ++ List.replicate 6 0
    | .view v => v.page page.toNat := by
  cases x <;> rfl

/-- The addresses from 64h read 00h (R182). -/
theorem controlRegion_unassigned {k : Nat} (hk : 4 ≤ k) : (d.controlRegion ch).getD k 0 = 0 := by
  rw [Device.controlRegion, getD_append_replicate]
  exact List.getD_eq_default _ _ hk

end

/-! ### The register block is as Table 63 says -/

/-- A REGISTER_WRITE leaves the channel with the bytes applied to its parameter registers, and nothing else (R159, R182). -/
theorem exec_registerWrite {s : State} {d : Device} {ch : Agent} {start : RegAddr} {data : List Byte} (hl : Live s d)
    (hr : (d.chan ch).state ≠ .reset) (hwf : (Instr.registerWrite ch start data).wf = true) :
    exec (.registerWrite ch start data) s = .next (s.withDev (d.setChan ch
      { d.chan ch with params := (d.chan ch).params.writeAll (spread start data) })) := by
  obtain ⟨⟨⟨ht, hc⟩, hattn⟩, hview⟩ : ((noTrigger (spread start data) = true ∧ noControl (spread start data) = true) ∧
      lastWrite (spread start data) attnenAddr = none) ∧ lastWrite (spread start data) viewpageAddr = none := by
    simpa [Instr.wf] using hwf
  refine (onLive_linkWrite_registers hl hr ht hc).trans ?_
  rw [Channel.writeRegisters, hattn, hview]
  rfl

/-- Settles O5: a write by the bytes that it leaves, a read address by address, and the block by its four regions. -/
theorem registerWriteSetsTheParameters : Obligations.RegisterWriteSetsTheParameters := by
  refine ⟨fun s d ch start data hl hr hwf => ⟨_, exec_registerWrite hl hr hwf, fun a ha => ?_⟩, fun s d ch start n hl hr => ?_,
    fun d ch => ?_⟩
  · rw [readRegister_params ha, readRegister_params ha, chan_setChan_self]
    exact bytes_writeAll _ _ ha
  · rw [linkRead_live hl hr, readBytes_eq]
  intro c p r byte bytes
  have result {a : RegAddr} (k : Nat) (ha : a.toNat = 0x38 + k) (hk : k < 24) : byte a = c.resultBytes.getD k 0 :=
    readRegister_result k ha hk
  have results (k : Nat) {l : List Byte} {a : RegAddr} {n : Nat} (ha : a.toNat = 0x38 + k) (hn : k + n ≤ 24) (hl : l.length = n)
      (h : (c.resultBytes.drop k).take n = l) : bytes a n = l := map_readRegister_result k ha hn hl h
  refine ⟨?_, ?_, fun hc => ?_, fun k hk => ?_, ⟨r.present, ?_, getLsbD_present r⟩, ?_, ?_, ?_, ?_, ?_, ?_, ?_, fun n => ?_, ?_,
    ?_, ?_, ?_, fun n => ?_, ?_, ?_, fun a ha => ?_⟩
  · refine map_readRegister (length_paramsBytes p) fun k hk => ?_
    have ha : ((0x00 : RegAddr) + BitVec.ofNat 7 k).toNat = k := (toNat_add_ofNat (by simp; omega)).trans (Nat.zero_add k)
    rw [readRegister_params (by omega), ha]
    rfl
  · rw [result 0 rfl (by decide)]
    exact all_getElem?_code _
  · exact (result 1 rfl (by decide)).trans (resultBytes_completed_none hc)
  · rw [result 1 rfl (by decide), resultBytes_completed hk]
    exact trigger_place k
  · exact results 2 rfl (by decide) rfl rfl
  · exact results 4 rfl (by decide) rfl rfl
  · exact result 6 rfl (by decide)
  · exact (result 7 rfl (by decide)).trans (resultBytes_mode c)
  · exact results 8 rfl (by decide) rfl rfl
  · exact results 12 rfl (by decide) rfl (resultBytes_term c)
  · exact result 16 rfl (by decide)
  · exact (result 17 rfl (by decide)).trans (resultBytes_created c)
  · rw [result 18 rfl (by decide), resultBytes_kinds]
    exact getLsbD_kinds _ n
  · exact (result 19 rfl (by decide)).trans (resultBytes_relation c)
  · exact result 20 rfl (by decide)
  · exact result 21 rfl (by decide)
  · refine (map_readRegister (length_windowBytes r.window c.viewPage) fun k hk => ?_).trans (windowBytes_eq ..)
    exact readRegister_window (toNat_add_ofNat (by simp; omega)) hk
  · have hstatus : byte 0x60 = d.status ch := readRegister_control 0 rfl
    rw [hstatus]
    exact getLsbD_status d ch n
  · exact readRegister_control 2 rfl
  · exact readRegister_control 3 rfl
  · rcases ha with ⟨h31, h37⟩ | rfl | rfl | rfl | h64
    · exact readRegister_reserved h31 h37
    · exact result 22 rfl (by decide)
    · exact result 23 rfl (by decide)
    · exact readRegister_control 1 rfl
    · exact (readRegister_control (a.toNat - 0x60) (by omega)).trans (controlRegion_unassigned (by omega))

end Sys2Proof.Machine
end

section
/-!
PROOFS. How a warm reset begins (R172 to R175): what its beginning does to the part, by the WARM RESET command and by a cause that
arises on the board.
-/
namespace Sys2Proof.Machine

section
variable {s : State} {d d₁ : Device} {ch : Agent} {w : Writes} {c : PinCause}

/-! ### The part at the beginning (R174, Table 60) -/

/-- A record loses its queue, its flags, its graces and its switch, and nothing else (R21, R58, R82). -/
theorem record_warm_eq (r : Record) : r.warm = { r with
    queue := []
    holders := r.holders.map fun h => { h with asked := false, grace := none }
    occupancy := if r.isSwitching then .idle else r.occupancy } := by
  unfold Record.isSwitching
  cases ho : r.occupancy <;> simp [Record.warm, ho]

/-- The beginning of a warm reset, whichever cause it has. -/
theorem warmBegun_warmBegin (d : Device) (cause : Bool) : WarmBegun d { d.warmBegin with cmdReset := cause } where
  generations := (mapsRecords_warmBegin d).generation
  free e he := ((mapsRecords_warmBegin d).entry e).trans (congrArg (Option.map Record.warm) he)
  records e r hr := by
    rw [← record_warm_eq]
    exact ((mapsRecords_warmBegin d).entry e).trans (congrArg (Option.map Record.warm) hr)
  groups := group_warmBegin d
  notices := notice_warmBegin d
  channels := chan_warmBegin d
  agents := rfl
  boot := rfl
  ticket := rfl
  config := rfl
  tickPhase := rfl
  issued := rfl
  recorded := ⟨_, rfl, tget_tabulate _⟩
  reclaimLeft := rfl
  control := controlHolder_of_recorded _ rfl

/-- The running command stands in its channel alone, and the beginning resets every channel (R171). -/
theorem warmBegin_started (d : Device) (ch : Agent) (k : Cmd) : (d.started ch k).warmBegin = d.warmBegin := rfl

/-! ### The causes (R172, R173) -/

/-- WARM RESET of the control holder begins the reset with itself as the cause, and no answer is written (R173). -/
theorem exec_warmReset (h : StartsControl s d ch .warmReset w d₁) :
    exec (.warmReset ch w) s = .next (s.withDev { d₁.warmBegin with cmdReset := true }) := by
  refine (exec_commandRow .warmReset ch w s).trans ?_
  rw [onLive_live h.starts.live, commandWrite_control h, ← warmBegin_started d₁ ch .warmReset]
  rfl

theorem exec_begin_present (h : s.pins.cause c = true) : exec (.warmResetBegin c) s = .next s := if_pos h

theorem exec_begin_absent (h : s.pins.cause c = false) : exec (.warmResetBegin c) s =
    .next { s with pins := s.pins.setCause c true, dev := if s.held then s.dev else s.dev.map Device.warmBegin } :=
  if_neg (by rw [h]; decide)

/-- A cause that arises is noted alone while another is present or the part is lost, and begins the reset of a live part (R172,
R174). -/
theorem exec_begin_pin (hp : s.pins.cause c = false) :
    (s.dev = none ∨ s.held = true → exec (.warmResetBegin c) s = .next { s with pins := s.pins.setCause c true }) ∧
    ∀ d, Live s d → ∃ d₂, WarmBegun d d₂ ∧ d₂.cmdReset = d.cmdReset ∧
      exec (.warmResetBegin c) s = .next { s with pins := s.pins.setCause c true, dev := some d₂ } := by
  rw [exec_begin_absent hp]
  refine ⟨?_, fun d hl => ⟨d.warmBegin, warmBegun_warmBegin d d.cmdReset, rfl, ?_⟩⟩
  · rintro (hd | hh)
    · simp [hd]
    · rw [if_pos hh]
  · simp [hl.free, hl.dev]

end

/-- Settles O53: the command and a board cause both lead to `warmBegin`, which `warmBegun_warmBegin` describes. -/
theorem warmResetBegins : Obligations.WarmResetBegins := by
  refine ⟨fun s d d₁ ch w h => ⟨_, warmBegun_warmBegin d₁ true, rfl, exec_warmReset h⟩, fun s c => ?_⟩
  cases c with
  | nreset => exact ⟨exec_begin_present (c := .nreset), exec_begin_pin (c := .nreset)⟩
  | coreSupply => exact ⟨exec_begin_present (c := .coreSupply), exec_begin_pin (c := .coreSupply)⟩

end Sys2Proof.Machine
end

section
/-!
PROOFS. The step on a waiting command (log 16), and the bits of a transaction on a link (R181).
-/
namespace Sys2Proof.Machine

/-! ### The command at the front of the queue (log 16) -/

theorem step_pending {s : State} {c : Instr} {rest : List Instr} (h : s.pending = c :: rest) :
    step s = exec c { s with pending := rest } := by
  simp only [step, h]

/-- Settles O1: the waiting command is the first case of `step`. -/
theorem stepTakesTheFrontCommand : Obligations.StepTakesTheFrontCommand := fun _ _ _ => step_pending

/-! ### The bytes among the bits (R181) -/

section
variable {cut : List Bool}

/-- Gathering the eight bits of a byte undoes sending them. -/
theorem ofBoolListBE_msbFirst (b : Byte) : BitVec.ofBoolListBE (msbFirst b) = b := by
  refine BitVec.eq_of_getMsbD_eq fun i hi => ?_
  rw [BitVec.getMsbD_ofBoolListBE]
  change i < 8 at hi
  interval_cases i <;> rfl

theorem bytesOfBits_msbFirst_append (b : Byte) (bits : List Bool) :
    bytesOfBits (msbFirst b ++ bits) = b :: bytesOfBits bits :=
  congrArg (· :: bytesOfBits bits) (ofBoolListBE_msbFirst b)

/-- A byte cut short is discarded. -/
theorem bytesOfBits_cut (h : cut.length < 8) : bytesOfBits cut = [] := by
  unfold bytesOfBits
  split
  · simp only [List.length_cons] at h
    omega
  · rfl

/-- The bits of whole bytes, and of a byte cut short after them, give the whole bytes. -/
theorem bytesOfBits_flatMap_msbFirst (h : cut.length < 8) (data : List Byte) :
    bytesOfBits (data.flatMap msbFirst ++ cut) = data := by
  induction data with
  | nil => exact bytesOfBits_cut h
  | cons b data ih => rw [List.flatMap_cons, List.append_assoc, bytesOfBits_msbFirst_append, ih]

/-! ### The address byte (R181) -/

theorem decodeLink_sent (h : cut.length < 8) (addr : Byte) (data : List Byte) :
    decodeLink (msbFirst addr ++ data.flatMap msbFirst ++ cut) =
      if addr.getLsbD 7 then .read (addr.setWidth 7) data.length else .write (addr.setWidth 7) data := by
  rw [decodeLink, List.append_assoc, bytesOfBits_msbFirst_append, bytesOfBits_flatMap_msbFirst h]

theorem decodeLink_cut (h : cut.length < 8) : decodeLink cut = .nothing := by
  rw [decodeLink, bytesOfBits_cut h]

end

section
variable (a : RegAddr)

theorem writeByte_bit7 : (a.setWidth 8).getLsbD 7 = false := by
  rw [BitVec.getLsbD_setWidth, BitVec.getLsbD_of_ge a 7 le_rfl, Bool.and_false]

theorem writeByte_start : (a.setWidth 8).setWidth 7 = a := by
  rw [BitVec.setWidth_setWidth_of_le a (by decide), BitVec.setWidth_eq]

theorem readByte_bit7 : (0x80 ||| a.setWidth 8).getLsbD 7 = true := by
  rw [BitVec.getLsbD_or]
  rfl

/-- The read bit lies above the seven bits of the address. -/
theorem readByte_start : (0x80 ||| a.setWidth 8).setWidth 7 = a := by
  rw [BitVec.setWidth_or, writeByte_start]
  exact BitVec.zero_or

end

/-- Settles O4: the address byte and the data come back whole, and bit 7 of the address byte gives the direction. -/
theorem linkBitsSpellATransaction : Obligations.LinkBitsSpellATransaction := by
  refine ⟨fun a data cut h => ⟨?write, ?read⟩, fun cut => decodeLink_cut⟩
  case write => rw [decodeLink_sent h, writeByte_bit7, writeByte_start, if_neg Bool.false_ne_true]
  case read => rw [decodeLink_sent h, readByte_bit7, readByte_start, if_pos rfl]

end Sys2Proof.Machine
end
